-- ==== Sys2Proof/Word.lean ====
section
/-! DEFINITION. The plain data types every other file uses: indices, bytes, tables, slots and slot-indexed triples.
Notation is that of spec/00_scope.md section 6. -/

namespace Sys2Proof

/-- `Idx` (00_scope.md section 6.1, R26): the integers 0 to 25. -/
abbrev Idx := Fin 26

/-- One byte of format H (R56). -/
abbrev Byte := BitVec 8

/-- A lookup table `Idx -> Idx` of 26 entries, entry 0 first (R30, R36). -/
abbrev Table := Vector Idx 26

/-- The rotor slots, in the fixed order left, middle, right (R3). -/
inductive Slot where
  | L | M | R
  deriving DecidableEq, Repr

/-- Three like things, one per slot, in the order `[L, M, R]` (R3). -/
structure PerSlot (α : Type) where
  L : α
  M : α
  R : α
  deriving DecidableEq, Repr, Inhabited

/-- The element of slot `s`. -/
def PerSlot.get {α : Type} (p : PerSlot α) : Slot → α
  | .L => p.L
  | .M => p.M
  | .R => p.R

/-- The same triple with the element of slot `s` replaced, the other two kept. -/
def PerSlot.set {α : Type} (p : PerSlot α) (s : Slot) (a : α) : PerSlot α :=
  match s with
  | .L => { p with L := a }
  | .M => { p with M := a }
  | .R => { p with R := a }

/-- The triple computed elementwise. -/
def PerSlot.map {α β : Type} (f : α → β) (p : PerSlot α) : PerSlot β :=
  { L := f p.L, M := f p.M, R := f p.R }

/-- The three elements, left slot first (R3). -/
def PerSlot.toList {α : Type} (p : PerSlot α) : List α := [p.L, p.M, p.R]

/-- All indices in increasing order. -/
def allIdx : List Idx :=
  [0, 1, 2, 3, 4, 5, 6, 7, 8, 9, 10, 11, 12, 13, 14, 15, 16, 17, 18, 19, 20, 21, 22, 23, 24, 25]

/-- The table that maps every index to itself. -/
def identityTable : Table :=
  #v[0, 1, 2, 3, 4, 5, 6, 7, 8, 9, 10, 11, 12, 13, 14, 15, 16, 17, 18, 19, 20, 21, 22, 23, 24, 25]

end Sys2Proof
end

