-- ==== Sys2Proof/Config.lean ====
section
/-! DEFINITION. What an implementation fixes (spec/00_scope.md section 5): the default contents of the parameters
CATALOG, REFLECTOR and FOLD_LOWERCASE, and the free value of registers the spec leaves without a value.
The parameters themselves are fields of State (log entry 3), so that claims hold for every value of them. -/

namespace Sys2Proof

/-- One catalog entry: the wiring and the notch of a rotor type (R18). -/
structure RotorType where
  wiring : Table
  notch : Idx
  deriving DecidableEq, Repr, Inhabited

/-- Everything an instance owns besides its status: what R28 calls unspecified while the instance is unconfigured. -/
structure Bank where
  sel : PerSlot Nat
  wiring : PerSlot Table
  notch : PerSlot Idx
  pos : PerSlot Idx
  ring : PerSlot Idx
  plug : Table
  deriving DecidableEq, Repr, Inhabited

/-- Catalog identifier 0, historical name I (R43). -/
def Config.rotorI : RotorType where
  wiring := #v[4, 10, 12, 5, 11, 6, 3, 16, 21, 25, 13, 19, 14, 22, 24, 7, 23, 20, 18, 15, 0, 8, 1, 17, 2, 9]
  notch := 16

/-- Catalog identifier 1, historical name II (R43). -/
def Config.rotorII : RotorType where
  wiring := #v[0, 9, 3, 10, 18, 8, 17, 20, 23, 1, 11, 7, 22, 19, 12, 2, 16, 6, 25, 13, 15, 24, 5, 21, 14, 4]
  notch := 4

/-- Catalog identifier 2, historical name III (R43). -/
def Config.rotorIII : RotorType where
  wiring := #v[1, 3, 5, 7, 9, 11, 2, 15, 17, 19, 23, 21, 25, 13, 24, 4, 8, 22, 6, 0, 10, 12, 20, 18, 16, 14]
  notch := 21

/-- The default `CATALOG` (R43): the list position is the rotor identifier, the length is `NTYPES = 3`. -/
def Config.defaultCatalog : List RotorType := [Config.rotorI, Config.rotorII, Config.rotorIII]

/-- The default `REFLECTOR` (R44). -/
def Config.defaultReflector : Table :=
  #v[24, 17, 20, 7, 16, 18, 11, 3, 15, 23, 13, 6, 14, 10, 12, 8, 4, 1, 5, 25, 2, 22, 21, 9, 0, 19]

/-- The default of `FOLD_LOWERCASE` (R53). -/
def Config.defaultFoldLowercase : Bool := true

/-- FREE VALUE (R28, R141, U5; log entry 2): what the registers of an unconfigured instance hold, the argument being
a fresh number each time they lose their value. Nothing constrains it. -/
opaque Config.freeBank : Nat → Bank

end Sys2Proof
end

