-- ==== Sys2Proof/Syntax.lean ====
section
/-! DEFINITION. The operations of the core, one constructor per row of spec/opcode_table.json (R61, R63). -/

namespace Sys2Proof

/-- The operands of `CONFIG`, the configuration `K` (R60, R85): exactly three of each by type (R92). Values are not
limited here: `CONFIG` itself rejects what is out of range (R86). A pair element is a letter given by its index; a
character `x` stands for `cp(x) - 0x41`, which lies in 0 to 25 exactly for the uppercase letters (R1, R52; log entry 8). -/
structure Configuration where
  rot : PerSlot Int
  pos0 : PerSlot Int
  ring : PerSlot Int
  pairs : List (Int × Int)
  deriving DecidableEq, Repr

/-- The plugboard pair written `xy` with two characters (R60, R62). -/
def Configuration.pairOfChars (x y : Char) : Int × Int :=
  ((x.toNat : Int) - 0x41, (y.toNat : Int) - 0x41)

/-- The operations (R61), the pseudo-operations (R63) and the reserved opcode bytes (R59). -/
inductive Instr where
  | rotorForward (r : Slot) (v : Idx)
  | rotorBackward (r : Slot) (v : Idx)
  | rotorStep (r : Slot)
  | rotorAtNotch (r : Slot)
  | plugSwap (v : Idx)
  | reflApply (v : Idx)
  | config (k : Configuration)
  | stepAll
  | path (v : Idx)
  /-- Format H `KEY c`, response one byte. -/
  | key (c : Idx)
  /-- Format T `A`-`Z`: the operand already assembled (R52). -/
  | keyUpper (c : Idx)
  /-- Format T `a`-`z`: the operand already assembled (R53). -/
  | keyLower (c : Idx)
  /-- Format H `PASS`: carries no character (R56). -/
  | pass
  /-- Format T `PASS x` (R54). -/
  | passChar (x : Char)
  | char (x : Char)
  | process (text : List Char)
  | rdpos
  | encrypt (k : Configuration) (text : List Char)
  | decrypt (k : Configuration) (text : List Char)
  /-- A reserved format H opcode byte (R59). -/
  | reserved (op : Byte)
  deriving DecidableEq, Repr

end Sys2Proof
end

