-- ==== Sys2Proof/Machine/State.lean ====
section
/-! DEFINITION. The state of one machine instance with its host interface, as plain data (spec/10_state.md section 1). -/

namespace Sys2Proof.Machine

/-- The value of `ERR` (R20, R121). -/
inductive Cause where
  /-- Code 0: the last `CONFIG` succeeded, or none since hardware reset. -/
  | noError
  /-- Code 1, `E_RANGE`: a position or ring value outside 0 to 25. -/
  | range
  /-- Code 2, `E_PLUG`: a letter used more than once in the plugboard pairs. -/
  | plug
  /-- Code 3, `E_ROTOR`: an unknown rotor identifier. -/
  | rotor
  /-- Code 4, `E_FORMAT`: a plugboard pair element that is not an uppercase letter. -/
  | format
  deriving DecidableEq, Repr

/-- What an operation's pseudocode calls `result` (log entry 6). -/
inductive Result where
  | none
  | index (y : Idx)
  | flag (b : Bool)
  | status (c : Cause)
  | character (x : Char)
  | text (t : List Char)
  | positions (p : PerSlot Idx)
  deriving DecidableEq, Repr

/-- What the host presents to the core (log entry 4). -/
inductive Request where
  /-- Format H command bytes (R56). -/
  | bytes (bs : List Byte)
  /-- Format T text, taken one character at a time (R51). -/
  | text (t : List Char)
  /-- One command given by its logical operands (R60, R62). -/
  | command (i : Instr)
  /-- The hardware reset event (R129, R141). -/
  | hardwareReset
  deriving DecidableEq, Repr

/-- No step of the core ends in a fault: the one exception, `ConfigError`, is taken as a next state (R120, R124), so
nobody raises a fault and the type has no constructor (safe: there is nothing to raise). -/
inductive Fault where
  deriving DecidableEq, Repr

/-- Why a step gives no meaning. -/
inductive Refusal where
  /-- Raised by no meaning: kept for an instruction without one. Safe. -/
  | notModelled (mnemonic : String)
  /-- Every command but `CONFIG` on an instance whose `CONFIGURED` is false (R130). Safe: the model promises nothing. -/
  | unconfigured
  /-- Every command when a table parameter, or a wiring in use, does not meet its precondition (R45, U12). Safe. -/
  | illFormedTable
  /-- A reserved format H opcode byte (R59). Safe. -/
  | reservedOpcode
  /-- A format H stream that ends inside a `CONFIG` payload (R59), raised by the fetch. Safe. -/
  | truncatedConfig
  /-- The host issued an internal operation, which it cannot (R50, R61), raised by the fetch. Safe. -/
  | internalOperation
  /-- A command addressed to an instance that does not exist (R132), raised by `Instances.execAt`. Safe. -/
  | noSuchInstance
  deriving DecidableEq, Repr

/-- One machine instance and its host interface. -/
structure State where
  /-- `CATALOG` (R18): the position in the list is the rotor identifier. Never written. -/
  catalog : List RotorType
  /-- `REFLECTOR` (R17). Never written. -/
  reflector : Table
  /-- The parameter `FOLD_LOWERCASE` (R53, R64). Never written. -/
  foldLowercase : Bool
  /-- `SEL[s]` (R11). -/
  sel : PerSlot Nat
  /-- `WIRING[s]` (R12). -/
  wiring : PerSlot Table
  /-- `NOTCH[s]` (R13). -/
  notch : PerSlot Idx
  /-- `POS[s]` (R14). -/
  pos : PerSlot Idx
  /-- `RING[s]` (R15). -/
  ring : PerSlot Idx
  /-- `PLUG` (R16). -/
  plug : Table
  /-- `CONFIGURED` (R19). -/
  configured : Bool
  /-- `ERR` (R20). -/
  err : Cause
  /-- What the host has issued and the core has not yet taken, first issued first (R4, R41). -/
  input : List Request
  /-- The output text (R30, R34). -/
  output : List Char
  /-- The format H response bytes sent so far (R56). -/
  response : List Byte
  /-- The result of the last operation (the model's own field, log entry 6). -/
  result : Result
  /-- How many times the registers have lost their value (the model's own field, log entry 2). -/
  freeCount : Nat
  deriving DecidableEq, Repr

/-- The machine right after hardware reset (R28, R141): unconfigured, `ERR` 0, the constants at their contents. The
register groups the spec calls unspecified hold the values log entry 1 names (DESIGN CHOICE). -/
def State.reset : State where
  catalog := Config.defaultCatalog
  reflector := Config.defaultReflector
  foldLowercase := Config.defaultFoldLowercase
  sel := ⟨0, 0, 0⟩
  wiring := ⟨identityTable, identityTable, identityTable⟩
  notch := ⟨0, 0, 0⟩
  pos := ⟨0, 0, 0⟩
  ring := ⟨0, 0, 0⟩
  plug := identityTable
  configured := false
  err := .noError
  input := []
  output := []
  response := []
  result := .none
  freeCount := 0

end Sys2Proof.Machine
end

