-- ==== Sys2Proof/Machine/Index.lean ====
section
/-! DEFINITION. Indices and letters: reduction mod 26 (R2), the alphabet (R1), and the class of a format T character
(R51 to R54). -/

namespace Sys2Proof.Machine

open Sys2Proof

/-- `a mod 26` (R2): the Euclidean remainder of any integer, never negative. -/
def mod26 (a : Int) : Idx :=
  ⟨(a % 26).toNat, by omega⟩

/-- `letter(i)` (R1, R55): the uppercase letter of an index. -/
def letter (i : Idx) : Char := Char.ofNat (0x41 + i.val)

/-- The lowercase letter that folds to index `i` (R53). -/
def lowerLetter (i : Idx) : Char := Char.ofNat (0x61 + i.val)

/-- The index `n - base` when the code point `n` is one of the 26 from `base` on. -/
def indexFrom (base n : Nat) : Option Idx :=
  if h : base ≤ n ∧ n < base + 26 then some ⟨n - base, by omega⟩ else none

/-- `index(x)` for an uppercase letter `A`-`Z`, code points `0x41 .. 0x5A` (R52). -/
def upperIndex (x : Char) : Option Idx := indexFrom 0x41 x.toNat

/-- The folded index of a lowercase letter `a`-`z`, code points `0x61 .. 0x7A` (R53). -/
def lowerIndex (x : Char) : Option Idx := indexFrom 0x61 x.toNat

/-- The letter index a character keys under `FOLD_LOWERCASE = fold`, or none when its class is "other" (R51, R54, R110). -/
def letterOf (fold : Bool) (x : Char) : Option Idx :=
  match upperIndex x with
  | some c => some c
  | none => if fold then lowerIndex x else none

/-- `zext_8` of an index (R58). -/
def idxByte (i : Idx) : Byte := BitVec.ofNat 8 i.val

end Sys2Proof.Machine
end

