-- ==== Sys2Proof/Machine/Tables.lean ====
section
/-! DEFINITION. Table access and table checks: lookup, inverse lookup, and the preconditions of R45. -/

namespace Sys2Proof.Machine

open Sys2Proof

/-- `T[i]`, one entry of a table (R36, R39). -/
def entry (t : Table) (i : Idx) : Idx := t.get i

/-- `T^-1[v]`: the index whose entry is `v` (R38). On a bijection exactly one index qualifies; on a table where none
does the value 0 is never used, since such tables are refused (R45). -/
def preimage (t : Table) (v : Idx) : Idx :=
  (allIdx.find? (fun i => entry t i == v)).getD 0

/-- Every index occurs among the 26 entries: the table is a bijection on `Idx` (R12, R45). -/
def isBijection (t : Table) : Bool :=
  allIdx.all (fun v => allIdx.any (fun i => entry t i == v))

/-- The table is an involution (R16, R17). -/
def isInvolution (t : Table) : Bool :=
  allIdx.all (fun i => entry t (entry t i) == i)

/-- No index maps to itself (R17). -/
def hasNoFixedPoint (t : Table) : Bool :=
  allIdx.all (fun i => entry t i != i)

/-- The precondition on `CATALOG`: at least the identifiers 0, 1, 2, every wiring a bijection (R35, R45). -/
def catalogOk (c : List RotorType) : Bool :=
  3 ≤ c.length && c.all (fun e => isBijection e.wiring)

/-- The precondition on `REFLECTOR`: an involution without fixed point (R17, R45). -/
def reflectorOk (t : Table) : Bool := isInvolution t && hasNoFixedPoint t

/-- The catalog entry of a rotor identifier; the empty entry stands where there is none, which `CONFIG` never reads
because it has rejected unknown identifiers (R11, R31, R86). -/
def catalogEntry (c : List RotorType) (t : Nat) : RotorType :=
  c.getD t { wiring := identityTable, notch := 0 }

/-- The table with the pair `{a, b}` wired both ways (R89). -/
def plugPair (t : Table) (p : Int × Int) : Table :=
  (t.set (mod26 p.1).val (mod26 p.2)).set (mod26 p.2).val (mod26 p.1)

/-- `plugTable(pairs)` (R89): the identity with every pair wired both ways. -/
def plugTable (pairs : List (Int × Int)) : Table :=
  pairs.foldl plugPair identityTable

end Sys2Proof.Machine
end

