-- ==== Sys2Proof/Machine/Operands.lean ====
section
/-! DEFINITION. Operand forms: the effective index of a rotor access, the validation of `CONFIG`'s operands (R86) and
the registers they give (R85). -/

namespace Sys2Proof.Machine

open Sys2Proof

/-- The entry shift of a rotor, `(v + POS - RING) mod 26` (R70, R71): the effective index of its table access. -/
def enterRotor (pos ring v : Idx) : Idx :=
  mod26 ((v.val : Int) + pos.val - ring.val)

/-- The exit un-shift of a rotor, `(w - POS + RING) mod 26` (R70, R71). -/
def leaveRotor (pos ring w : Idx) : Idx :=
  mod26 ((w.val : Int) - pos.val + ring.val)

/-- An integer that is an `Idx`. -/
def inIdx (v : Int) : Bool := 0 ≤ v && v ≤ 25

/-- V1 (R86): every position and ring value lies in 0 to 25. -/
def rangeOk (k : Configuration) : Bool :=
  (k.pos0.toList ++ k.ring.toList).all inIdx

/-- All the elements of all the pairs, in order (R86). -/
def pairElements (pairs : List (Int × Int)) : List Int :=
  pairs.flatMap (fun p => [p.1, p.2])

/-- No element occurs twice. -/
def noRepeat : List Int → Bool
  | [] => true
  | a :: l => !l.contains a && noRepeat l

/-- V2 (R86): no letter occurs twice among the elements of the pairs; elements that are no letters are not counted. -/
def disjointOk (k : Configuration) : Bool :=
  noRepeat ((pairElements k.pairs).filter inIdx)

/-- V3 (R86): every rotor identifier lies in `0 .. NTYPES-1`. -/
def rotorsOk (ntypes : Nat) (k : Configuration) : Bool :=
  k.rot.toList.all (fun t => 0 ≤ t && t < (ntypes : Int))

/-- V4 (R86): every element of a pair is one of the 26 uppercase letters. -/
def formatOk (k : Configuration) : Bool :=
  (pairElements k.pairs).all inIdx

/-- `validate` (R86): the lowest-coded cause that applies (R123), or `noError`. -/
def validate (ntypes : Nat) (k : Configuration) : Cause :=
  if !rangeOk k then .range
  else if !disjointOk k then .plug
  else if !rotorsOk ntypes k then .rotor
  else if !formatOk k then .format
  else .noError

/-- The registers a valid configuration gives (R85, R28). -/
def configuredBank (catalog : List RotorType) (k : Configuration) : Bank :=
  let sel := k.rot.map Int.toNat
  { sel := sel
    wiring := sel.map (fun t => (catalogEntry catalog t).wiring)
    notch := sel.map (fun t => (catalogEntry catalog t).notch)
    pos := k.pos0.map mod26
    ring := k.ring.map mod26
    plug := plugTable k.pairs }

end Sys2Proof.Machine
end

