-- ==== Sys2Proof/Machine/Flags.lean ====
section
/-! DEFINITION. The predicates the core computes (R23): the notch predicates, which are not stored, and the conditions
under which a command has a meaning (R45, R130). -/

namespace Sys2Proof.Machine

open Sys2Proof

/-- The numeric code of a cause (R121). -/
def Cause.code : Cause → Byte
  | .noError => 0
  | .range => 1
  | .plug => 2
  | .rotor => 3
  | .format => 4

/-- `POS[s] == NOTCH[s]` (R73); `RING[s]` does not enter. -/
def State.atNotch (s : State) (r : Slot) : Bool :=
  s.pos.get r == s.notch.get r

/-- The table parameters meet their preconditions (R45). -/
def State.parametersOk (s : State) : Bool :=
  catalogOk s.catalog && reflectorOk s.reflector

/-- The wirings in use are bijections (R12), as the inverse lookup needs (R38). -/
def State.wiringsOk (s : State) : Bool :=
  s.wiring.toList.all isBijection

/-- Why a command other than `CONFIG` has no meaning in this state, if it has none (R45, R130). -/
def State.obstacle (s : State) : Option Refusal :=
  if !s.parametersOk then some .illFormedTable
  else if !s.configured then some .unconfigured
  else if !s.wiringsOk then some .illFormedTable
  else none

end Sys2Proof.Machine
end

