-- ==== Sys2Proof/Machine/Ops.lean ====
section
/-! DEFINITION. The named operations over the registers and the host interface; every meaning is built from these. -/

namespace Sys2Proof.Machine

open Sys2Proof

/-- What an operation answers. -/
abbrev Answer := Host.Outcome State Fault Refusal

/-- A command that needs a configured instance: its next state, or the refusal of R130 or R45. -/
def State.onConfigured (s next : State) : Answer :=
  match s.obstacle with
  | some r => .refused r
  | none => .next next

/-! ### Rotors -/

/-- The value of `ROTOR.FORWARD r, v` (R70). -/
def State.forward (s : State) (r : Slot) (v : Idx) : Idx :=
  leaveRotor (s.pos.get r) (s.ring.get r)
    (entry (s.wiring.get r) (enterRotor (s.pos.get r) (s.ring.get r) v))

/-- The value of `ROTOR.BACKWARD r, v` (R71). -/
def State.backward (s : State) (r : Slot) (v : Idx) : Idx :=
  leaveRotor (s.pos.get r) (s.ring.get r)
    (preimage (s.wiring.get r) (enterRotor (s.pos.get r) (s.ring.get r) v))

/-- `(p + 1) mod 26` (R72). -/
def nextPosition (p : Idx) : Idx := mod26 ((p.val : Int) + 1)

/-- The state with the three positions replaced. -/
def State.withPos (s : State) (p : PerSlot Idx) : State := { s with pos := p }

/-- The register write of `ROTOR.STEP r` (R72). -/
def State.stepRotor (s : State) (r : Slot) : State :=
  s.withPos (s.pos.set r (nextPosition (s.pos.get r)))

/-- `STEPALL` in its four steps (R95): both predicates are taken before any rotor moves. -/
def State.stepAll (s : State) : State :=
  let rightAtNotch := s.atNotch .R
  let middleAtNotch := s.atNotch .M
  let carried :=
    if middleAtNotch then (s.stepRotor .L).stepRotor .M
    else if rightAtNotch then s.stepRotor .M
    else s
  carried.stepRotor .R

/-! ### The signal path -/

/-- The value of `PLUG.SWAP v` (R80). -/
def State.plugSwap (s : State) (v : Idx) : Idx := entry s.plug v

/-- The value of `REFL.APPLY v` (R81). -/
def State.reflect (s : State) (v : Idx) : Idx := entry s.reflector v

/-- The outgoing half of the path, plugboard and rotors right to left (R100 steps 1 and 2). -/
def State.outward (s : State) (v : Idx) : Idx :=
  s.forward .L (s.forward .M (s.forward .R (s.plugSwap v)))

/-- The return half of the path, rotors left to right and plugboard (R100 steps 4 and 5). -/
def State.homeward (s : State) (v : Idx) : Idx :=
  s.plugSwap (s.backward .R (s.backward .M (s.backward .L v)))

/-- The value of `PATH v` (R100). -/
def State.path (s : State) (v : Idx) : Idx :=
  s.homeward (s.reflect (s.outward v))

/-- The value `KEY c` returns: the path at the stepped positions (R101). -/
def State.keyed (s : State) (c : Idx) : Idx := s.stepAll.path c

/-! ### Characters -/

/-- The character `CHAR x` returns (R110). -/
def State.charResult (s : State) (x : Char) : Char :=
  match letterOf s.foldLowercase x with
  | some c => letter (s.keyed c)
  | none => x

/-- The registers after `CHAR x`: stepped by a letter, unchanged otherwise (R110). -/
def State.charNext (s : State) (x : Char) : State :=
  match letterOf s.foldLowercase x with
  | some _ => s.stepAll
  | none => s

/-- The loop of `PROCESS` (R112): the output text and the registers afterwards, characters taken left to right. -/
def State.processLoop (s : State) : List Char → List Char × State
  | [] => ([], s)
  | x :: rest =>
    let after := (s.charNext x).processLoop rest
    (s.charResult x :: after.1, after.2)

/-! ### The host interface -/

/-- Deliver a result (log entry 6). -/
def State.withResult (s : State) (r : Result) : State := { s with result := r }

/-- Append to the output text (R30, R34). -/
def State.emitText (s : State) (t : List Char) : State := { s with output := s.output ++ t }

/-- Append response bytes (R56). -/
def State.respond (s : State) (bs : List Byte) : State := { s with response := s.response ++ bs }

/-! ### Construction, its exception, and hardware reset -/

/-- Write every register an instance owns. -/
def State.loadBank (s : State) (b : Bank) : State :=
  { s with sel := b.sel, wiring := b.wiring, notch := b.notch, pos := b.pos, ring := b.ring, plug := b.plug }

/-- The registers lose their value (R28): each holds a free value, a fresh one each time (log entry 2). -/
def State.loseRegisters (s : State) : State :=
  { s.loadBank (Config.freeBank s.freeCount) with freeCount := s.freeCount + 1 }

/-- `raise ConfigError(cause)` (R124): `CONFIGURED` false, `ERR` the cause, the registers without a value. There is
no handler to go to and no return from it (R125). -/
def State.raiseConfigError (s : State) (c : Cause) : State :=
  { s.loseRegisters with configured := false, err := c }

/-- The assignments of a successful `CONFIG` (R85, R87). -/
def State.install (s : State) (k : Configuration) : State :=
  { s.loadBank (configuredBank s.catalog k) with configured := true, err := .noError }

/-- The state part of `CONFIG` (R85): install or raise. -/
def State.construct (s : State) (k : Configuration) : State :=
  match validate s.catalog.length k with
  | .noError => s.install k
  | c => s.raiseConfigError c

/-- The hardware reset event (R129, R141): unconfigured, `ERR` 0, the registers without a value; the constants keep
their contents and the host's own streams are untouched (log entry 15). -/
def State.hardwareReset (s : State) : State :=
  { s.loseRegisters with configured := false, err := .noError, result := .none }

/-- A new, independent instance of the same hardware (R10, R63): the constants shared, nothing else. -/
def State.newInstance (s : State) : State :=
  { State.reset with catalog := s.catalog, reflector := s.reflector, foldLowercase := s.foldLowercase }

/-- The result of `ENCRYPT(K, P)` (R63): on a new instance, `CONFIG K` then `PROCESS P`; a construction that fails
gives its cause. -/
def State.onNewInstance (s : State) (k : Configuration) (t : List Char) : Result :=
  let fresh := s.newInstance.construct k
  if fresh.configured then .text (fresh.processLoop t).1 else .status fresh.err

end Sys2Proof.Machine
end

