-- ==== Sys2Proof/Machine/Construction.lean ====
section
/-! DEFINITION. The meaning of `CONFIG` (spec/42_construction.md). -/

namespace Sys2Proof.Machine

open Sys2Proof

/-- `CONFIG rot, pos0, ring, pairs` (R85 to R92, R124): accepted in any lifecycle state; answers `ERR` (R58). -/
def execConfig (k : Configuration) (s : State) : Answer :=
  if s.parametersOk then
    let t := s.construct k
    .next ((t.respond [t.err.code]).withResult (.status t.err))
  else .refused .illFormedTable

end Sys2Proof.Machine
end

