-- ==== Sys2Proof/Machine/Permutation.lean ====
section
/-! DEFINITION. The meanings of the plugboard and reflector operations (spec/41_plugboard_reflector.md). -/

namespace Sys2Proof.Machine

open Sys2Proof

/-- `PLUG.SWAP v` (R80). -/
def execPlugSwap (v : Idx) (s : State) : Answer :=
  s.onConfigured (s.withResult (.index (s.plugSwap v)))

/-- `REFL.APPLY v` (R81). -/
def execReflApply (v : Idx) (s : State) : Answer :=
  s.onConfigured (s.withResult (.index (s.reflect v)))

end Sys2Proof.Machine
end

