-- ==== Sys2Proof/Machine/Pseudo.lean ====
section
/-! DEFINITION. The meanings of the pseudo-operations (R63) and of the reserved opcode bytes (R59). -/

namespace Sys2Proof.Machine

open Sys2Proof

/-- `ENCRYPT(K, P)` (R63): runs on a new instance, so this one only receives the result (log entry 11). -/
def execEncrypt (k : Configuration) (t : List Char) (s : State) : Answer :=
  if s.parametersOk then .next (s.withResult (s.onNewInstance k t))
  else .refused .illFormedTable

/-- `DECRYPT(K, C)` (R63): the same operation under its second name. -/
def execDecrypt (k : Configuration) (t : List Char) (s : State) : Answer :=
  if s.parametersOk then .next (s.withResult (s.onNewInstance k t))
  else .refused .illFormedTable

/-- A reserved format H opcode byte spells no command and is refused (R59). -/
def execReserved (_op : Byte) (_s : State) : Answer :=
  .refused .reservedOpcode

end Sys2Proof.Machine
end

