-- ==== Sys2Proof/Machine/Rotor.lean ====
section
/-! DEFINITION. The meanings of the rotor operations (spec/40_rotor.md). -/

namespace Sys2Proof.Machine

open Sys2Proof

/-- `ROTOR.FORWARD r, v` (R70). -/
def execRotorForward (r : Slot) (v : Idx) (s : State) : Answer :=
  s.onConfigured (s.withResult (.index (s.forward r v)))

/-- `ROTOR.BACKWARD r, v` (R71). -/
def execRotorBackward (r : Slot) (v : Idx) (s : State) : Answer :=
  s.onConfigured (s.withResult (.index (s.backward r v)))

/-- `ROTOR.STEP r` (R72): no return value. -/
def execRotorStep (r : Slot) (s : State) : Answer :=
  s.onConfigured ((s.stepRotor r).withResult .none)

/-- `ROTOR.ATNOTCH r` (R73). -/
def execRotorAtNotch (r : Slot) (s : State) : Answer :=
  s.onConfigured (s.withResult (.flag (s.atNotch r)))

end Sys2Proof.Machine
end

