-- ==== Sys2Proof/Machine/Signal.lean ====
section
/-! DEFINITION. The meanings of `STEPALL` (spec/43_stepping.md), `PATH` and `KEY` (spec/44_signal_path.md). -/

namespace Sys2Proof.Machine

open Sys2Proof

/-- `STEPALL` (R95). -/
def execStepAll (s : State) : Answer :=
  s.onConfigured (s.stepAll.withResult .none)

/-- `PATH v` (R100). -/
def execPath (v : Idx) (s : State) : Answer :=
  s.onConfigured (s.withResult (.index (s.path v)))

/-- `KEY c` in format H (R101): the response is the output index (R58). -/
def execKey (c : Idx) (s : State) : Answer :=
  let y := s.keyed c
  s.onConfigured ((s.stepAll.respond [idxByte y]).withResult (.index y))

/-- `KEY c` of a format T uppercase letter (R52, R101): the result is the uppercase letter of the output index (R55). -/
def execKeyUpper (c : Idx) (s : State) : Answer :=
  let y := letter (s.keyed c)
  s.onConfigured ((s.stepAll.emitText [y]).withResult (.character y))

/-- A format T lowercase letter (R53): folded and keyed as its uppercase letter; with `FOLD_LOWERCASE` false it is of
class "other" and passes unchanged. -/
def execKeyLower (c : Idx) (s : State) : Answer :=
  if s.foldLowercase then
    let y := letter (s.keyed c)
    s.onConfigured ((s.stepAll.emitText [y]).withResult (.character y))
  else
    s.onConfigured ((s.emitText [lowerLetter c]).withResult (.character (lowerLetter c)))

end Sys2Proof.Machine
end

