-- ==== Sys2Proof/Machine/Text.lean ====
section
/-! DEFINITION. The meanings of `PASS`, `CHAR`, `PROCESS` and `RDPOS` (spec/45_process.md). -/

namespace Sys2Proof.Machine

open Sys2Proof

/-- `PASS` in format H (R56, R111): no operand, no response, the core does nothing. -/
def execPass (s : State) : Answer :=
  s.onConfigured (s.withResult .none)

/-- `PASS x` in format T (R111): the character, unchanged; no rotor steps. -/
def execPassChar (x : Char) (s : State) : Answer :=
  s.onConfigured ((s.emitText [x]).withResult (.character x))

/-- `CHAR x` (R110). -/
def execChar (x : Char) (s : State) : Answer :=
  let y := s.charResult x
  s.onConfigured (((s.charNext x).emitText [y]).withResult (.character y))

/-- `PROCESS text` (R112). -/
def execProcess (t : List Char) (s : State) : Answer :=
  let after := s.processLoop t
  s.onConfigured ((after.2.emitText after.1).withResult (.text after.1))

/-- `RDPOS` (R116): the three positions, left rotor first, one response byte each (R58). -/
def execRdpos (s : State) : Answer :=
  s.onConfigured ((s.respond (s.pos.toList.map idxByte)).withResult (.positions s.pos))

end Sys2Proof.Machine
end

