-- ==== Sys2Proof/Machine/Dispatch.lean ====
section
/-! DEFINITION. The meaning of each instruction, one arm per constructor of `Instr`. -/

namespace Sys2Proof.Machine

open Sys2Proof

def exec (i : Instr) (s : State) : Host.Outcome State Fault Refusal :=
  match i with
  | .rotorForward r v => Sys2Proof.Machine.execRotorForward r v s
  | .rotorBackward r v => Sys2Proof.Machine.execRotorBackward r v s
  | .rotorStep r => Sys2Proof.Machine.execRotorStep r s
  | .rotorAtNotch r => Sys2Proof.Machine.execRotorAtNotch r s
  | .plugSwap v => Sys2Proof.Machine.execPlugSwap v s
  | .reflApply v => Sys2Proof.Machine.execReflApply v s
  | .config k => Sys2Proof.Machine.execConfig k s
  | .stepAll => Sys2Proof.Machine.execStepAll s
  | .path v => Sys2Proof.Machine.execPath v s
  | .key c => Sys2Proof.Machine.execKey c s
  | .keyUpper c => Sys2Proof.Machine.execKeyUpper c s
  | .keyLower c => Sys2Proof.Machine.execKeyLower c s
  | .pass => Sys2Proof.Machine.execPass s
  | .passChar x => Sys2Proof.Machine.execPassChar x s
  | .char x => Sys2Proof.Machine.execChar x s
  | .process t => Sys2Proof.Machine.execProcess t s
  | .rdpos => Sys2Proof.Machine.execRdpos s
  | .encrypt k t => Sys2Proof.Machine.execEncrypt k t s
  | .decrypt k t => Sys2Proof.Machine.execDecrypt k t s
  | .reserved op => Sys2Proof.Machine.execReserved op s

end Sys2Proof.Machine
end

