-- ==== Sys2Proof/WellFormed.lean ====
section
/-! DEFINITION. Which terms of `Instr` are commands of the core: the operands each row of spec/opcode_table.json admits,
which rows have a format H spelling, and which a host can issue (R50, R61). -/

namespace Sys2Proof

open Machine

/-- The reserved opcode bytes `0x03 .. 0x1F` and `0x3A .. 0xFF` (R59). -/
def isReservedOpcode (op : Byte) : Bool :=
  (0x03#8 ≤ op && op ≤ 0x1F#8) || 0x3A#8 ≤ op

/-- A value one format H byte can carry (R57). -/
def fitsByte (v : Int) : Bool := 0 ≤ v && v < 256

/-- A configuration whose every operand fits its format H byte, the pair count `n` included (R57). -/
def Configuration.fitsFormatH (k : Configuration) : Bool :=
  (k.rot.toList ++ k.pos0.toList ++ k.ring.toList).all fitsByte
    && k.pairs.all (fun p => fitsByte p.1 && fitsByte p.2) && k.pairs.length < 256

/-- The operand checks of the rows, under `FOLD_LOWERCASE = fold`: a folded lowercase letter exists only when folding
is on, format T `PASS` takes a character of class "other", a reserved row takes a reserved byte (R53, R54, R59). Every
instruction a decoder gives meets them; no command is refused for want of them (log entry 12). -/
def Instr.wellFormed (fold : Bool) : Instr → Bool
  | .rotorForward _ _ => true
  | .rotorBackward _ _ => true
  | .rotorStep _ => true
  | .rotorAtNotch _ => true
  | .plugSwap _ => true
  | .reflApply _ => true
  | .config _ => true
  | .stepAll => true
  | .path _ => true
  | .key _ => true
  | .keyUpper _ => true
  | .keyLower _ => fold
  | .pass => true
  | .passChar x => letterOf fold x == none
  | .char _ => true
  | .process _ => true
  | .rdpos => true
  | .encrypt _ _ => true
  | .decrypt _ _ => true
  | .reserved op => isReservedOpcode op

/-- The rows with a format H spelling whose operands fit it (R56, R57, R59). -/
def Instr.hasFormatH : Instr → Bool
  | .rotorForward _ _ => false
  | .rotorBackward _ _ => false
  | .rotorStep _ => false
  | .rotorAtNotch _ => false
  | .plugSwap _ => false
  | .reflApply _ => false
  | .config k => k.fitsFormatH
  | .stepAll => false
  | .path _ => false
  | .key _ => true
  | .keyUpper _ => false
  | .keyLower _ => false
  | .pass => true
  | .passChar _ => false
  | .char _ => false
  | .process _ => false
  | .rdpos => true
  | .encrypt _ _ => false
  | .decrypt _ _ => false
  | .reserved op => isReservedOpcode op

/-- The rows whose spelling is one format T character (R51). -/
def Instr.hasFormatT : Instr → Bool
  | .rotorForward _ _ => false
  | .rotorBackward _ _ => false
  | .rotorStep _ => false
  | .rotorAtNotch _ => false
  | .plugSwap _ => false
  | .reflApply _ => false
  | .config _ => false
  | .stepAll => false
  | .path _ => false
  | .key _ => false
  | .keyUpper _ => true
  | .keyLower _ => true
  | .pass => false
  | .passChar _ => true
  | .char _ => false
  | .process _ => false
  | .rdpos => false
  | .encrypt _ _ => false
  | .decrypt _ _ => false
  | .reserved _ => false

/-- The operations a host can issue; the others happen only as part of another operation (R50, R61). -/
def Instr.hostIssuable : Instr → Bool
  | .rotorForward _ _ => false
  | .rotorBackward _ _ => false
  | .rotorStep _ => false
  | .rotorAtNotch _ => false
  | .plugSwap _ => false
  | .reflApply _ => false
  | .config _ => true
  | .stepAll => false
  | .path _ => false
  | .key _ => true
  | .keyUpper _ => true
  | .keyLower _ => true
  | .pass => true
  | .passChar _ => true
  | .char _ => true
  | .process _ => true
  | .rdpos => true
  | .encrypt _ _ => true
  | .decrypt _ _ => true
  | .reserved _ => true

end Sys2Proof
end

