-- ==== Sys2Proof/Decode.lean ====
section
/-! DEFINITION. The decoders of format H (bytes, R56 to R59) and format T (characters, R51 to R54), and the encoders. -/

namespace Sys2Proof

open Machine

/-- Why a format H byte stream gives no command (R59). -/
inductive DecodeError where
  /-- The stream is empty: no command has been sent. -/
  | noCommand
  /-- The stream ends in the middle of a `CONFIG` payload. -/
  | truncatedConfig
  deriving DecidableEq, Repr

/-- One row of the format H opcode table: the byte matches when `op & mask = pattern` (R56). -/
structure OpcodeRow where
  mask : Byte
  pattern : Byte
  deriving DecidableEq, Repr

/-- Does the opcode byte match the row? -/
def OpcodeRow.hits (r : OpcodeRow) (op : Byte) : Bool := op &&& r.mask == r.pattern

/-- `PASS`: match `0x00`, mask `0xFF` (R56). -/
def passRow : OpcodeRow := { mask := 0xFF, pattern := 0x00 }
/-- `RDPOS`: match `0x01`, mask `0xFF` (R56). -/
def rdposRow : OpcodeRow := { mask := 0xFF, pattern := 0x01 }
/-- `CONFIG`: match `0x02`, mask `0xFF` (R56). -/
def configRow : OpcodeRow := { mask := 0xFF, pattern := 0x02 }
/-- `KEY`: match `0x20`, mask `0xE0`, side condition `op[4:0] <= 25` (R56). -/
def keyRow : OpcodeRow := { mask := 0xE0, pattern := 0x20 }

/-- The format H opcode table (R56). -/
def opcodeRows : List OpcodeRow := [passRow, rdposRow, configRow, keyRow]

/-- `op[4:0]` as a letter index; none for the reserved values 26 to 31 (R56). -/
def keyOperand (op : Byte) : Option Idx := indexFrom 0 (op &&& 0x1F).toNat

/-- An operand byte as the unsigned number it carries (R57). -/
def byteInt (b : Byte) : Int := b.toNat

/-- `n` plugboard pairs, two bytes each, and what follows them (R57); none when the bytes run out. -/
def takePairs : Nat → List Byte → Option (List (Int × Int) × List Byte)
  | 0, bs => some ([], bs)
  | n + 1, a :: b :: bs =>
    match takePairs n bs with
    | some (ps, rest) => some ((byteInt a, byteInt b) :: ps, rest)
    | none => none
  | _ + 1, _ => none

/-- The `CONFIG` payload after `op`, in the order of R57. -/
def decodeConfig : List Byte → Except DecodeError (Instr × List Byte)
  | r0 :: r1 :: r2 :: p0 :: p1 :: p2 :: g0 :: g1 :: g2 :: n :: bs =>
    match takePairs n.toNat bs with
    | some (ps, rest) =>
      .ok (.config { rot := ⟨byteInt r0, byteInt r1, byteInt r2⟩,
                     pos0 := ⟨byteInt p0, byteInt p1, byteInt p2⟩,
                     ring := ⟨byteInt g0, byteInt g1, byteInt g2⟩,
                     pairs := ps }, rest)
    | none => .error .truncatedConfig
  | _ => .error .truncatedConfig

/-- The format H decoder (R56): the first command of a byte stream and the bytes after it. Total: reserved bytes give
the reserved row, which is refused by its meaning; a stream that holds no whole command is rejected by name (R59). -/
def decode : List Byte → Except DecodeError (Instr × List Byte)
  | [] => .error .noCommand
  | op :: bs =>
    if passRow.hits op then .ok (.pass, bs)
    else if rdposRow.hits op then .ok (.rdpos, bs)
    else if configRow.hits op then decodeConfig bs
    else if keyRow.hits op then
      match keyOperand op with
      | some c => .ok (.key c, bs)
      | none => .ok (.reserved op, bs)
    else .ok (.reserved op, bs)

/-- The format T decoder (R51 to R54): every character is exactly one operation. -/
def decodeChar (fold : Bool) (x : Char) : Instr :=
  match upperIndex x with
  | some c => .keyUpper c
  | none =>
    match fold, lowerIndex x with
    | true, some c => .keyLower c
    | _, _ => .passChar x

/-- The length in bytes of the command that starts a format H stream (R57, R64): `11 + 2n` for `CONFIG`, else 1. -/
def commandLength : List Byte → Nat
  | [] => 0
  | op :: payload => if configRow.hits op then 11 + 2 * (payload.getD 9 0).toNat else 1

/-- One operand byte of a value (R57). -/
def intByte (v : Int) : Byte := BitVec.ofInt 8 v

/-- The `CONFIG` command's bytes (R57). -/
def encodeConfig (k : Configuration) : List Byte :=
  0x02#8 :: (k.rot.toList ++ k.pos0.toList ++ k.ring.toList).map intByte
    ++ (BitVec.ofNat 8 k.pairs.length :: k.pairs.flatMap (fun p => [intByte p.1, intByte p.2]))

/-- The words of an instruction in its own format. -/
inductive Encoding where
  /-- No encoding: an internal or a pseudo-operation (R61). -/
  | none
  /-- Format H command bytes (R56). -/
  | bytes (bs : List Byte)
  /-- Format T characters (R51). -/
  | chars (xs : List Char)
  deriving DecidableEq, Repr

/-- The encoder: the words of a well-formed instruction (R51, R56, R57, R61). -/
def encode : Instr → Encoding
  | .rotorForward _ _ => .none
  | .rotorBackward _ _ => .none
  | .rotorStep _ => .none
  | .rotorAtNotch _ => .none
  | .plugSwap _ => .none
  | .reflApply _ => .none
  | .config k => .bytes (encodeConfig k)
  | .stepAll => .none
  | .path _ => .none
  | .key c => .bytes [0x20#8 + idxByte c]
  | .keyUpper c => .chars [letter c]
  | .keyLower c => .chars [lowerLetter c]
  | .pass => .bytes [0x00#8]
  | .passChar x => .chars [x]
  | .char x => .chars [x]
  | .process t => .chars t
  | .rdpos => .bytes [0x01#8]
  | .encrypt _ _ => .none
  | .decrypt _ _ => .none
  | .reserved op => .bytes [op]

/-- The longest format H command: `CONFIG` with `n = 255` pairs (R57, R64). -/
def maxCommandLength : Nat := 521

/-- The first `nbits` bits of `w` as bytes: bit 0 is the least significant bit of the first byte. -/
def wordBytes (nbits w : Nat) : List Byte :=
  (List.range ((nbits + 7) / 8)).map (fun k => BitVec.ofNat 8 ((w % 2 ^ nbits) / 2 ^ (8 * k)))

/-- The bytes of the one command that starts with the `nbits` bits `w`, every later bit 0. -/
def tableWordBytes (nbits w : Nat) : List Byte :=
  let padded := wordBytes nbits w ++ List.replicate maxCommandLength 0#8
  padded.take (commandLength padded)

/-- The instruction the decoder reads from a format H command whose bits are `w` (none where it refuses). -/
def decodeTableWord (nbits w : Nat) : Option Instr :=
  match decode (tableWordBytes nbits w) with
  | .ok (i, _) => some i
  | .error _ => none

end Sys2Proof
end

