-- ==== Sys2Proof/Machine/Fetch.lean ====
section
/-! DEFINITION. Taking the next command from what the host has issued (R4, R41, R50; log entries 4, 5, 13, 19). -/

namespace Sys2Proof.Machine

open Sys2Proof

/-- What the core finds when it is ready for the next command. -/
inductive Fetched where
  /-- Nothing has been issued: the core holds its state (R131). -/
  | idle
  /-- The first request is used up; the state with it dropped. -/
  | drained (s : State)
  /-- A hardware reset is asserted; the state with the request dropped. -/
  | reset (s : State)
  /-- A command; the state with the command's words taken from the input. -/
  | run (i : Instr) (s : State)
  /-- The input spells no command the core accepts. -/
  | refuse (r : Refusal)
  deriving DecidableEq, Repr

/-- The state with its input replaced. -/
def State.withInput (s : State) (q : List Request) : State := { s with input := q }

/-- Take the next command from format H bytes (R56, R59). -/
def State.fetchBytes (s : State) (bs : List Byte) (q : List Request) : Fetched :=
  match decode bs with
  | .ok (i, rest) => .run i (s.withInput (.bytes rest :: q))
  | .error .noCommand => .drained (s.withInput q)
  | .error .truncatedConfig => .refuse .truncatedConfig

/-- Take the next character of a format T text (R51). A text without characters left, an empty one from the start too,
spells no command and is dropped whatever the instance's state (DESIGN CHOICE, log entry 19). -/
def State.fetchText (s : State) (t : List Char) (q : List Request) : Fetched :=
  match t with
  | [] => .drained (s.withInput q)
  | x :: rest => .run (decodeChar s.foldLowercase x) (s.withInput (.text rest :: q))

/-- Take a command given by its logical operands (R60, R61): internal operations are refused, every other command
runs, whatever its operands (log entry 12). -/
def State.fetchCommand (s : State) (i : Instr) (q : List Request) : Fetched :=
  if !i.hostIssuable then .refuse .internalOperation
  else .run i (s.withInput q)

/-- Take the next command, requests in the order the host issued them (R41). -/
def State.fetch (s : State) : Fetched :=
  match s.input with
  | [] => .idle
  | .bytes bs :: q => s.fetchBytes bs q
  | .text t :: q => s.fetchText t q
  | .command i :: q => s.fetchCommand i q
  | .hardwareReset :: q => .reset (s.withInput q)

/-- The host issues format H bytes ahead of everything else. -/
def State.issueBytes (s : State) (bs : List Byte) : State :=
  s.withInput (.bytes bs :: s.input)

end Sys2Proof.Machine
end

