-- ==== Sys2Proof/Machine/Step.lean ====
section
/-! DEFINITION. One step: one command, to completion (R4, R41, R152). -/

namespace Sys2Proof.Machine

open Sys2Proof

/-- One step of the core. -/
def step (s : State) : Host.Outcome State Fault Refusal :=
  match s.fetch with
  | .idle => .next s
  | .drained t => .next t
  | .reset t => .next t.hardwareReset
  | .run i t => exec i t
  | .refuse r => .refused r

/-- `s` with the format H command whose bits are `w` issued ahead of everything else, so that the next step takes it. -/
def State.withFetchWord (s : State) (nbits w : Nat) : State :=
  s.issueBytes (tableWordBytes nbits w)

end Sys2Proof.Machine
end

