-- ==== Sys2Proof/Machine/Instances.lean ====
section
/-! DEFINITION. Several machine instances side by side (R10, R42, R132): each command is addressed to one of them. -/

namespace Sys2Proof.Machine

open Sys2Proof

/-- Execute a command on instance number `k`; the others keep their state (R42). An instance has no identifier of its
own (R132): the number is its place in the host's list. -/
def Instances.execAt (k : Nat) (i : Instr) (ms : List State) : Host.Outcome (List State) Fault Refusal :=
  match ms[k]? with
  | none => .refused .noSuchInstance
  | some s =>
    match exec i s with
    | .next t => .next (ms.set k t)
    | .fault f => .fault f
    | .refused r => .refused r

end Sys2Proof.Machine
end

