-- ==== Sys2Proof/Machine/Replay.lean ====
section
/-! DEFINITION. The optional replay switch `EXIT_MODE = absolute` (90_conflicts.md C1, 92_eei_decisions.md D4): the other
reading of the two rotor operations, kept for replaying D00 section 8's literals. It is not part of the hardware; no
meaning uses it (log entry 14). -/

namespace Sys2Proof.Machine

open Sys2Proof

/-- `ALT forward`: no exit un-shift (C1). -/
def State.altForward (s : State) (r : Slot) (v : Idx) : Idx :=
  entry (s.wiring.get r) (enterRotor (s.pos.get r) (s.ring.get r) v)

/-- `ALT backward`: no entry shift (C1). -/
def State.altBackward (s : State) (r : Slot) (v : Idx) : Idx :=
  leaveRotor (s.pos.get r) (s.ring.get r) (preimage (s.wiring.get r) v)

/-- The signal path with the other reading of the rotor stages (C1). -/
def State.altPath (s : State) (v : Idx) : Idx :=
  let out := s.altForward .L (s.altForward .M (s.altForward .R (s.plugSwap v)))
  s.plugSwap (s.altBackward .R (s.altBackward .M (s.altBackward .L (s.reflect out))))

/-- Letters keyed one after another under the other reading; the stepping is the same (P6). -/
def State.altKeys (s : State) : List Idx → List Idx
  | [] => []
  | c :: rest => s.stepAll.altPath c :: s.stepAll.altKeys rest

end Sys2Proof.Machine
end

