-- ==== Sys2Proof/Safety.lean ====
section
/-! DEFINITION. What the claims are stated in: the states in which commands have a meaning, the invariant of R21, and
when two instances are the same machine. -/

namespace Sys2Proof.Machine

open Sys2Proof

/-- A configured instance over well-formed tables: every command but a reserved byte has its effect (R45, R130). -/
abbrev State.Usable (s : State) : Prop :=
  s.parametersOk = true ∧ s.configured = true ∧ s.wiringsOk = true

/-- The invariant (R21, R31): the table parameters meet their preconditions; and a configured instance has `ERR` 0, an
involutive plugboard, and in each slot the wiring and notch of the catalog entry its `SEL` names. -/
def State.Inv (s : State) : Prop :=
  s.parametersOk = true ∧
    (s.configured = true →
      s.err = .noError ∧ isInvolution s.plug = true ∧
        ∀ r : Slot, s.catalog[s.sel.get r]? = some ⟨s.wiring.get r, s.notch.get r⟩)

/-- Everything an instance owns besides its status (R28). -/
def State.bank (s : State) : Bank :=
  { sel := s.sel, wiring := s.wiring, notch := s.notch, pos := s.pos, ring := s.ring, plug := s.plug }

/-- Two instances of the same hardware: equal constants (R10). -/
def State.SameHardware (s t : State) : Prop :=
  s.catalog = t.catalog ∧ s.reflector = t.reflector ∧ s.foldLowercase = t.foldLowercase

/-- Two instances no command can tell apart: equal constants and status, and, while they are configured, equal registers
(R28: the registers of an unconfigured instance are unreadable). The host's own streams do not enter. -/
def State.SameMachine (s t : State) : Prop :=
  s.SameHardware t ∧ s.configured = t.configured ∧ s.err = t.err ∧ (s.configured = true → s.bank = t.bank)

/-- A text with the letters it keys in uppercase and the rest as it is (R117). -/
def foldText (fold : Bool) (t : List Char) : List Char :=
  t.map (fun x => match letterOf fold x with
    | some c => letter c
    | none => x)

/-- How many characters of a text are letters (R114). -/
def letterCount (fold : Bool) (t : List Char) : Nat :=
  (t.filter (fun x => (letterOf fold x).isSome)).length

/-- The operations that move rotors (R22). -/
def movesRotors : Instr → Bool
  | .rotorForward _ _ => false
  | .rotorBackward _ _ => false
  | .rotorStep _ => true
  | .rotorAtNotch _ => false
  | .plugSwap _ => false
  | .reflApply _ => false
  | .config _ => true
  | .stepAll => true
  | .path _ => false
  | .key _ => true
  | .keyUpper _ => true
  | .keyLower _ => true
  | .pass => false
  | .passChar _ => false
  | .char _ => true
  | .process _ => true
  | .rdpos => false
  | .encrypt _ _ => false
  | .decrypt _ _ => false
  | .reserved _ => false

end Sys2Proof.Machine
end

