-- ==== Sys2Proof/Certificates/Slice0/Obligations.lean ====
section
/-! DEFINITION. The statements for the provers, in the order of the spec's files. Each docstring names the rule it
formalises. The fields `result`, `output` and `response`, in which every statement finds what an operation delivers, are
the model's own (log entry 6). -/

open Sys2Proof Sys2Proof.Machine

/-! ### Indices and letters (00_scope.md) -/

/-- R2: `a mod 26` is the unique `r` in 0 to 25 with `a - r` divisible by 26. -/
def Obligations.ReductionIsTheEuclideanRemainder : Prop :=
  (∀ a : Int, (26 : Int) ∣ a - (mod26 a).val ∧ ∀ r : Idx, (26 : Int) ∣ a - r.val → r = mod26 a) ∧
    mod26 (-1) = 25 ∧ mod26 (-25) = 1 ∧ mod26 26 = 0 ∧ mod26 51 = 25

/-- R1: the 26 letters in order, and `letter` the inverse of `index`. -/
def Obligations.LettersAndIndicesAreInverse : Prop :=
  allIdx.map letter = ['A', 'B', 'C', 'D', 'E', 'F', 'G', 'H', 'I', 'J', 'K', 'L', 'M', 'N', 'O', 'P', 'Q', 'R', 'S',
      'T', 'U', 'V', 'W', 'X', 'Y', 'Z'] ∧
    (∀ i : Idx, upperIndex (letter i) = some i) ∧ ∀ (x : Char) (c : Idx), upperIndex x = some c → x = letter c

/-! ### State, reset and the invariant (10_state.md, 20_memory.md) -/

/-- Section 1 of 70_reset_and_hazards.md (R141, R28): reset leaves the instance unconfigured, `ERR` 0, the constants at
their contents. The registers the spec leaves unspecified are not mentioned (log entries 1 and 2). That the event is a
request of the host, and that it keeps the pending input (`t.input = q`), is the model's choice (log entry 15). -/
def Obligations.HardwareResetUnconfigures : Prop :=
  (State.reset.configured = false ∧ State.reset.err = .noError ∧ State.reset.catalog = Config.defaultCatalog ∧
      State.reset.reflector = Config.defaultReflector) ∧
    ∀ (s : State) (q : List Request), s.input = .hardwareReset :: q →
      ∃ t, step s = .next t ∧ t.configured = false ∧ t.err = .noError ∧ s.SameHardware t ∧ t.input = q

/-- Section 3 of 20_memory.md (R43, R44, R45): the default tables meet the preconditions. -/
def Obligations.DefaultTablesAreWellFormed : Prop :=
  (∀ e ∈ Config.defaultCatalog, Function.Bijective (entry e.wiring)) ∧
    (∀ v : Idx, entry Config.defaultReflector (entry Config.defaultReflector v) = v ∧
      entry Config.defaultReflector v ≠ v) ∧
    State.reset.parametersOk = true

/-- R21: the invariant holds at reset. -/
def Obligations.ResetMeetsTheInvariant : Prop := State.reset.Inv

/-- R21: every step keeps the invariant. -/
def Obligations.StepKeepsTheInvariant : Prop :=
  ∀ s t : State, s.Inv → step s = .next t → t.Inv

/-- R21 (a) to (e): what the invariant says of a configured instance. -/
def Obligations.InvariantOfAConfiguredInstance : Prop :=
  ∀ s : State, s.Inv → s.configured = true →
    (∀ r : Slot, Function.Bijective (entry (s.wiring.get r)) ∧ s.sel.get r < s.catalog.length) ∧
      (∀ v : Idx, s.plugSwap (s.plugSwap v) = v) ∧
      (∀ v : Idx, s.reflect (s.reflect v) = v ∧ s.reflect v ≠ v) ∧ s.Usable

/-- R40 (R17, R18): no step changes the tables every instance shares, nor the folding parameter. -/
def Obligations.ConstantsNeverChange : Prop :=
  ∀ s t : State, step s = .next t → s.SameHardware t

/-- R22: what each operation may write. Only `CONFIG` writes more than the positions and the host's streams; only the
stepping operations write the positions. That `ENCRYPT` and `DECRYPT` (section 7 of 30_encoding.md, R63) leave this
instance's registers alone, running on a new instance, is the model's deduction (log entry 11). -/
def Obligations.OnlyPositionsMoveAfterConstruction : Prop :=
  ∀ (i : Instr) (s t : State), exec i s = .next t → (∀ k, i ≠ .config k) →
    t = { s with pos := t.pos, output := t.output, response := t.response, result := t.result } ∧
      (movesRotors i = false → t.pos = s.pos)

/-- Section 3 of 20_memory.md (R45, U12): with ill-formed table parameters nothing runs. That a catalog of fewer than
three entries (00_scope.md section 5, R35) counts among them and is refused is the model's deduction (log entry 10). -/
def Obligations.IllFormedTablesAreRefused : Prop :=
  ∀ (i : Instr) (s : State), s.parametersOk = false → (∀ op, i ≠ .reserved op) → exec i s = .refused .illFormedTable

/-- R42: commands to different instances commute, and leave each other's state alone. The list of instances is the
model's (log entry 16), and that `ENCRYPT` and `DECRYPT` write only their result on theirs is too (log entry 11). -/
def Obligations.InstancesAreIndependent : Prop :=
  ∀ (j k : Nat) (a b : Instr) (ms m₁ m₂ : List State), j ≠ k →
    Instances.execAt j a ms = .next m₁ → Instances.execAt k b m₁ = .next m₂ →
    m₁[k]? = ms[k]? ∧ ∃ m₃, Instances.execAt k b ms = .next m₃ ∧ Instances.execAt j a m₃ = .next m₂

/-! ### Encoding and the step (30_encoding.md) -/

/-- Section 3 of 30_encoding.md (R56, R57): the format H decoder reads back every encodable instruction, with every
operand at every value its bytes admit, whatever follows. -/
def Obligations.DecodeInvertsEncodeFormatH : Prop :=
  ∀ i : Instr, i.hasFormatH = true → ∃ bs, encode i = .bytes bs ∧ ∀ rest, decode (bs ++ rest) = .ok (i, rest)

/-- Section 3 of 30_encoding.md (R56, R57): each format H command has one spelling. -/
def Obligations.EncodeInvertsDecodeFormatH : Prop :=
  ∀ (bs rest : List Byte) (i : Instr), decode bs = .ok (i, rest) →
    i.hasFormatH = true ∧ ∃ ws, encode i = .bytes ws ∧ bs = ws ++ rest

/-- R51: every character decodes to exactly one operation, by its code point; decoder and encoder are each other's
inverse on the format. -/
def Obligations.EveryCharacterIsOneOperation : Prop :=
  (∀ (fold : Bool) (x : Char),
    (∀ c : Idx, x.toNat = 0x41 + c.val → decodeChar fold x = .keyUpper c) ∧
    (∀ c : Idx, x.toNat = 0x61 + c.val → decodeChar fold x = if fold then .keyLower c else .passChar x) ∧
    (¬ (0x41 ≤ x.toNat ∧ x.toNat ≤ 0x5A) → ¬ (0x61 ≤ x.toNat ∧ x.toNat ≤ 0x7A) → decodeChar fold x = .passChar x) ∧
    encode (decodeChar fold x) = .chars [x] ∧ (decodeChar fold x).wellFormed fold = true) ∧
    ∀ (fold : Bool) (i : Instr), i.hasFormatT = true → i.wellFormed fold = true →
      ∃ x, encode i = .chars [x] ∧ decodeChar fold x = i

/-- R64: a command is as long as its own bytes announce, `11 + 2n` for `CONFIG` and 1 otherwise; a stream shorter than
that is cut short. -/
def Obligations.CommandLengthIsAnnounced : Prop :=
  (∀ (bs rest : List Byte) (i : Instr), decode bs = .ok (i, rest) →
      bs.length = commandLength bs + rest.length ∧
        commandLength bs = (match i with
          | .config k => 11 + 2 * k.pairs.length
          | _ => 1)) ∧
    ∀ bs : List Byte, bs ≠ [] → bs.length < commandLength bs → decode bs = .error .truncatedConfig

/-- Section 3 of 30_encoding.md (R56): no two rows of the opcode table match one byte, and a byte is reserved exactly
when it decodes to no row. -/
def Obligations.OpcodeRowsDoNotOverlap : Prop :=
  ∀ op : Byte, ((opcodeRows.filter (fun r => r.hits op)).length ≤ 1) ∧
    (isReservedOpcode op = true ↔ ((0x03 ≤ op.toNat ∧ op.toNat ≤ 0x1F) ∨ 0x3A ≤ op.toNat)) ∧
    ∀ bs : List Byte, isReservedOpcode op = true ↔ decode (op :: bs) = .ok (.reserved op, bs)

/-- Section 3 of 30_encoding.md (R59): reserved opcode bytes, truncated `CONFIG` streams, and any command but `CONFIG` on
an unconfigured instance are refused. That the bytes wait in the input is the model's choice (log entry 4); that a
`CONFIG` cut short at the end of one request is refused whatever the later requests bring is the model's deduction (log
entry 13); that the reserved row is refused for a byte that is not reserved as well, which no decoder gives, is the
model's (log entry 12). -/
def Obligations.ReservedWordsAreRefused : Prop :=
  (∀ (s : State) (op : Byte), exec (.reserved op) s = .refused .reservedOpcode) ∧
    (∀ (s : State) (op : Byte) (bs : List Byte) (q : List Request), isReservedOpcode op = true →
      s.input = .bytes (op :: bs) :: q → step s = .refused .reservedOpcode) ∧
    (∀ (s : State) (bs : List Byte) (q : List Request), bs.length < 10 + 2 * (bs.getD 9 0).toNat →
      s.input = .bytes (0x02#8 :: bs) :: q → step s = .refused .truncatedConfig) ∧
    ∀ (s : State) (c : Idx), s.parametersOk = true → s.configured = false →
      exec (.key c) s = .refused .unconfigured ∧ exec .pass s = .refused .unconfigured ∧
        exec .rdpos s = .refused .unconfigured

/-- Sections 2 and 3 of 30_encoding.md: words written out from the encoding tables (vectors P1, CF2). -/
def Obligations.SampleWordsDecode : Prop :=
  decode [0b00000000#8] = .ok (.pass, []) ∧ decode [0b00000001#8] = .ok (.rdpos, []) ∧
    decode [0b00100111#8, 0b00000001#8] = .ok (.key 7, [0b00000001#8]) ∧
    decode [0b00111001#8] = .ok (.key 25, []) ∧ decode [0b00111010#8] = .ok (.reserved 0x3A, []) ∧
    decode [0x02, 0x02, 0x00, 0x01, 0x07, 0x04, 0x13, 0x05, 0x19, 0x0B, 0x03, 0x00, 0x19, 0x04, 0x13, 0x10, 0x0A] =
      .ok (.config ⟨⟨2, 0, 1⟩, ⟨7, 4, 19⟩, ⟨5, 25, 11⟩, [(0, 25), (4, 19), (16, 10)]⟩, []) ∧
    decodeChar true 'H' = .keyUpper 7 ∧ decodeChar true 'h' = .keyLower 7 ∧ decodeChar false 'h' = .passChar 'h' ∧
    decodeChar true '5' = .passChar '5'

/-- Sections 1 and 3 of 30_encoding.md, 00_scope.md R4: one step takes the first request's next command and executes it
(how requests are held is the model's, log entries 4 and 5; that a host command runs whatever its operands is too, log
entry 12). -/
def Obligations.StepRunsTheDecodedCommand : Prop :=
  (∀ (s : State) (bs rest : List Byte) (q : List Request) (i : Instr), s.input = .bytes bs :: q →
      decode bs = .ok (i, rest) → step s = exec i (s.withInput (.bytes rest :: q))) ∧
    (∀ (s : State) (x : Char) (t : List Char) (q : List Request), s.input = .text (x :: t) :: q →
      step s = exec (decodeChar s.foldLowercase x) (s.withInput (.text t :: q))) ∧
    (∀ (s : State) (i : Instr) (q : List Request), s.input = .command i :: q → i.hostIssuable = true →
      step s = exec i (s.withInput q)) ∧
    ∀ s : State, s.input = [] → step s = .next s

/-- Sections 1 and 5 of 30_encoding.md (R50, R61): an internal operation has no encoding and the host cannot invoke it.
That a request carrying one is refused as `internalOperation` is the model's deduction (log entry 7), by way of its input
list (log entry 4). -/
def Obligations.InternalOperationsAreNotIssued : Prop :=
  ∀ (s : State) (i : Instr) (q : List Request), s.input = .command i :: q → i.hostIssuable = false →
    step s = .refused .internalOperation ∧ encode i = .none

/-! ### Rotor operations (40_rotor.md) -/

/-- R70. -/
def Obligations.RotorForwardValue : Prop :=
  ∀ (s : State) (r : Slot) (v : Idx), s.Usable →
    exec (.rotorForward r v) s = .next { s with result := .index (mod26
      (((entry (s.wiring.get r) (mod26 ((v.val : Int) + (s.pos.get r).val - (s.ring.get r).val))).val : Int)
        - (s.pos.get r).val + (s.ring.get r).val)) }

/-- R71: the entry shift, the unique preimage, the exit un-shift; and it undoes `ROTOR.FORWARD`. -/
def Obligations.RotorBackwardValue : Prop :=
  ∀ (s : State) (r : Slot) (v : Idx), s.Usable →
    (∃ i : Idx, entry (s.wiring.get r) i = mod26 ((v.val : Int) + (s.pos.get r).val - (s.ring.get r).val) ∧
      (∀ j : Idx, entry (s.wiring.get r) j = mod26 ((v.val : Int) + (s.pos.get r).val - (s.ring.get r).val) → j = i) ∧
      exec (.rotorBackward r v) s =
        .next { s with result := .index (mod26 ((i.val : Int) - (s.pos.get r).val + (s.ring.get r).val)) }) ∧
      s.backward r (s.forward r v) = v

/-- R72: the position goes up by one mod 26, nothing else changes, 26 applications come back. -/
def Obligations.RotorStepAdvancesOnePosition : Prop :=
  ∀ (s : State) (r : Slot), s.Usable →
    exec (.rotorStep r) s =
        .next { s with pos := s.pos.set r (mod26 (((s.pos.get r).val : Int) + 1)), result := .none } ∧
      (∀ (q : Slot) (a : Idx), q ≠ r → (s.pos.set r a).get q = s.pos.get q ∧ (s.pos.set r a).get r = a) ∧
      (fun u : State => u.stepRotor r)^[26] s = s

/-- R73: true exactly when the position equals the notch; the ring setting does not enter. -/
def Obligations.NotchComparesPositionOnly : Prop :=
  ∀ (s : State) (r : Slot), s.Usable →
    exec (.rotorAtNotch r) s = .next { s with result := .flag (decide (s.pos.get r = s.notch.get r)) } ∧
      ∃! p : Idx, ({ s with pos := s.pos.set r p } : State).atNotch r = true

/-- R74: forward and backward are bijections and each other's inverse, for every bijective wiring. -/
def Obligations.RotorMapsAreMutuallyInverse : Prop :=
  ∀ (s : State) (r : Slot), Function.Bijective (entry (s.wiring.get r)) →
    (∀ x : Idx, s.backward r (s.forward r x) = x) ∧ (∀ x : Idx, s.forward r (s.backward r x) = x) ∧
      Function.Bijective (s.forward r) ∧ Function.Bijective (s.backward r)

/-- R75: only the difference of position and ring setting matters to the two maps. -/
def Obligations.OnlyThePositionRingDifferenceMatters : Prop :=
  (∀ (s t : State) (r : Slot), s.wiring.get r = t.wiring.get r →
      mod26 (((s.pos.get r).val : Int) - (s.ring.get r).val) = mod26 (((t.pos.get r).val : Int) - (t.ring.get r).val) →
      ∀ v : Idx, s.forward r v = t.forward r v ∧ s.backward r v = t.backward r v) ∧
    ∀ (s : State) (r : Slot) (v : Idx),
      let raised : State := { s with pos := s.pos.set r (nextPosition (s.pos.get r)),
                                     ring := s.ring.set r (nextPosition (s.ring.get r)) }
      raised.forward r v = s.forward r v ∧ raised.backward r v = s.backward r v ∧
        (raised.atNotch r = true ↔ nextPosition (s.pos.get r) = s.notch.get r)

/-! ### Plugboard and reflector (41_plugboard_reflector.md) -/

/-- R80: the table lookup, and after a construction the partner of a paired letter and the letter itself otherwise. -/
def Obligations.PlugSwapExchangesConfiguredPairs : Prop :=
  (∀ (s : State) (v : Idx), s.Usable → exec (.plugSwap v) s = .next { s with result := .index (entry s.plug v) }) ∧
    ∀ (s : State) (k : Configuration), s.parametersOk = true → validate s.catalog.length k = .noError →
      ∃ t, exec (.config k) s = .next t ∧
        (∀ a b : Idx, ((a.val : Int), (b.val : Int)) ∈ k.pairs →
          exec (.plugSwap a) t = .next { t with result := .index b } ∧
            exec (.plugSwap b) t = .next { t with result := .index a }) ∧
        ∀ v : Idx, (∀ p ∈ k.pairs, p.1 ≠ (v.val : Int) ∧ p.2 ≠ (v.val : Int)) →
          exec (.plugSwap v) t = .next { t with result := .index v }

/-- R81: the bare table lookup, no shift; the result is never the operand. -/
def Obligations.ReflectorIsABareLookup : Prop :=
  ∀ (s : State) (v : Idx), s.Usable →
    exec (.reflApply v) s = .next { s with result := .index (entry s.reflector v) } ∧ entry s.reflector v ≠ v

/-- R82: the plugboard of every legal configuration is an involution, hence a bijection. -/
def Obligations.PlugboardIsAnInvolution : Prop :=
  ∀ (n : Nat) (k : Configuration), validate n k = .noError →
    (∀ v : Idx, entry (plugTable k.pairs) (entry (plugTable k.pairs) v) = v) ∧
      Function.Bijective (entry (plugTable k.pairs))

/-- R83: the reflector is an involution without fixed point. -/
def Obligations.ReflectorHasNoFixedPoint : Prop :=
  ∀ s : State, s.parametersOk = true → ∀ v : Idx, s.reflect (s.reflect v) = v ∧ s.reflect v ≠ v

/-! ### Construction (42_construction.md, 60_exceptions.md) -/

/-- Success of `CONFIG` (R85, R87, R31): every register from the operands and the catalog, `ERR` 0, one response byte. -/
def Obligations.ConstructionInstallsItsOperands : Prop :=
  ∀ (s : State) (k : Configuration), s.parametersOk = true → validate s.catalog.length k = .noError →
    ∃ t, exec (.config k) s = .next t ∧
      (∀ r : Slot, (t.sel.get r : Int) = k.rot.get r ∧
        s.catalog[t.sel.get r]? = some ⟨t.wiring.get r, t.notch.get r⟩ ∧
        ((t.pos.get r).val : Int) = k.pos0.get r ∧ ((t.ring.get r).val : Int) = k.ring.get r) ∧
      t.plug = plugTable k.pairs ∧ t.configured = true ∧ t.err = .noError ∧ t.result = .status .noError ∧
      t.response = s.response ++ [0x00#8] ∧ t.output = s.output ∧ t.input = s.input ∧ s.SameHardware t

/-- R124: a failed `CONFIG` leaves `CONFIGURED` false and `ERR` the cause, answers the cause, and every later command but
`CONFIG` is refused. -/
def Obligations.FailedConstructionLeavesNothingUsable : Prop :=
  ∀ (s : State) (k : Configuration), s.parametersOk = true → validate s.catalog.length k ≠ .noError →
    ∃ t, exec (.config k) s = .next t ∧ t.configured = false ∧ t.err = validate s.catalog.length k ∧
      t.result = .status t.err ∧ t.response = s.response ++ [t.err.code] ∧ t.output = s.output ∧
      t.input = s.input ∧ s.SameHardware t ∧
      ∀ (c : Idx) (x : Char) (m : List Char),
        exec (.key c) t = .refused .unconfigured ∧ exec (.keyUpper c) t = .refused .unconfigured ∧
        exec (.keyLower c) t = .refused .unconfigured ∧ exec .pass t = .refused .unconfigured ∧
        exec (.passChar x) t = .refused .unconfigured ∧ exec (.char x) t = .refused .unconfigured ∧
        exec (.process m) t = .refused .unconfigured ∧ exec .rdpos t = .refused .unconfigured

/-- Construction rules of 42_construction.md (R86) with the order of section 1 of 60_exceptions.md (R123): the four
checks, and the lowest-coded cause reported. That order is the default the spec decides on and the model chooses; the spec
also allows any applicable cause, and warns against a claim that depends on which (log entry 9). That a pair element is an
integer is the model's too (log entry 8). -/
def Obligations.ValidationReportsTheLowestCause : Prop :=
  ∀ (n : Nat) (k : Configuration),
    let badRange := ∃ r : Slot, ¬ (0 ≤ k.pos0.get r ∧ k.pos0.get r ≤ 25) ∨ ¬ (0 ≤ k.ring.get r ∧ k.ring.get r ≤ 25)
    let reused := ∃ a : Int, 0 ≤ a ∧ a ≤ 25 ∧ 2 ≤ (k.pairs.flatMap (fun p => [p.1, p.2])).count a
    let unknown := ∃ r : Slot, ¬ (0 ≤ k.rot.get r ∧ k.rot.get r < n)
    let noLetter := ∃ p ∈ k.pairs, ¬ (0 ≤ p.1 ∧ p.1 ≤ 25) ∨ ¬ (0 ≤ p.2 ∧ p.2 ≤ 25)
    (validate n k = .range ↔ badRange) ∧ (validate n k = .plug ↔ ¬ badRange ∧ reused) ∧
      (validate n k = .rotor ↔ ¬ badRange ∧ ¬ reused ∧ unknown) ∧
      (validate n k = .format ↔ ¬ badRange ∧ ¬ reused ∧ ¬ unknown ∧ noLetter) ∧
      (validate n k = .noError ↔ ¬ badRange ∧ ¬ reused ∧ ¬ unknown ∧ ¬ noLetter) ∧
      (validate n k = .noError → k.pairs.length ≤ 13)

/-- R89: `plugTable` does not depend on the order of the pairs nor on the order within them. -/
def Obligations.PlugTableIgnoresOrder : Prop :=
  ∀ (n : Nat) (k : Configuration), validate n k = .noError →
    (∀ a b : Idx, ((a.val : Int), (b.val : Int)) ∈ k.pairs →
      entry (plugTable k.pairs) a = b ∧ entry (plugTable k.pairs) b = a) ∧
    (∀ v : Idx, (∀ p ∈ k.pairs, p.1 ≠ (v.val : Int) ∧ p.2 ≠ (v.val : Int)) → entry (plugTable k.pairs) v = v) ∧
    (∀ ps : List (Int × Int), ps.Perm k.pairs → plugTable ps = plugTable k.pairs) ∧
    plugTable (k.pairs.map Prod.swap) = plugTable k.pairs ∧ plugTable [] = identityTable

/-- R90: the same identifier in all three slots is legal whenever the rest is. -/
def Obligations.SameRotorInEverySlotIsLegal : Prop :=
  ∀ (s : State) (k : Configuration) (e : Nat), s.parametersOk = true → validate s.catalog.length k = .noError →
    e < s.catalog.length →
    ∃ t, exec (.config { k with rot := ⟨e, e, e⟩ }) s = .next t ∧ t.configured = true ∧
      ∀ r : Slot, t.sel.get r = e ∧ ((t.pos.get r).val : Int) = k.pos0.get r ∧
        ((t.ring.get r).val : Int) = k.ring.get r

/-- R91 and R87: `CONFIG` forgets the past: on the same hardware its outcome does not depend on the earlier state, and a
failure does not keep the earlier configuration. -/
def Obligations.ReconfigurationForgetsThePast : Prop :=
  ∀ (s u : State) (k : Configuration), s.parametersOk = true → s.SameHardware u →
    ∃ t v, exec (.config k) s = .next t ∧ exec (.config k) u = .next v ∧ t.SameMachine v ∧ t.result = v.result ∧
      (t.configured = true ↔ validate s.catalog.length k = .noError)

/-- R125: a failing `CONFIG` fails again with the same cause; a corrected one works as if the failure had never been. -/
def Obligations.RetryFailsAlikeAndCorrectionRecovers : Prop :=
  ∀ (s t : State) (k : Configuration), s.parametersOk = true → validate s.catalog.length k ≠ .noError →
    exec (.config k) s = .next t →
    (∃ u, exec (.config k) t = .next u ∧ u.err = t.err ∧ u.result = t.result ∧ u.configured = false) ∧
      ∀ k' : Configuration, validate s.catalog.length k' = .noError →
        ∃ a b, exec (.config k') t = .next a ∧ exec (.config k') s = .next b ∧ a.bank = b.bank ∧
          a.configured = true ∧ b.configured = true ∧ a.err = .noError ∧ b.err = .noError

/-- R130: the host's commands on an unconfigured instance are refused. -/
def Obligations.UnconfiguredCommandsAreRefused : Prop :=
  ∀ (s : State) (c : Idx) (x : Char) (m : List Char), s.parametersOk = true → s.configured = false →
    exec (.key c) s = .refused .unconfigured ∧ exec (.keyUpper c) s = .refused .unconfigured ∧
      exec (.keyLower c) s = .refused .unconfigured ∧ exec .pass s = .refused .unconfigured ∧
      exec (.passChar x) s = .refused .unconfigured ∧ exec (.char x) s = .refused .unconfigured ∧
      exec (.process m) s = .refused .unconfigured ∧ exec .rdpos s = .refused .unconfigured

/-- R120, R126 (with R21's invariant): on a configured instance every operation completes, and only `CONFIG` writes
`CONFIGURED` or `ERR`. That `ENCRYPT` and `DECRYPT` (section 7 of 30_encoding.md, R63) complete for every configuration,
an illegal one too, and leave this instance's status alone is the model's deduction (log entry 11). -/
def Obligations.EveryOperationIsTotalWhenConfigured : Prop :=
  ∀ (i : Instr) (s : State), s.Inv → s.configured = true → (∀ op, i ≠ .reserved op) →
    ∃ t, exec i s = .next t ∧ ((∀ k, i ≠ .config k) → t.configured = true ∧ t.err = .noError)

/-- R134 and the note to R28: nothing a command does or answers depends on the registers of an unconfigured instance, on
the host's streams, or on anything but configuration and commands. That `ENCRYPT` and `DECRYPT` do not need this instance
configured is the model's deduction (log entry 11). -/
def Obligations.NothingReadsUnconfiguredRegisters : Prop :=
  ∀ (i : Instr) (s t : State), s.SameMachine t →
    (∃ r, exec i s = .refused r ∧ exec i t = .refused r) ∨
      ∃ s' t' o b, exec i s = .next s' ∧ exec i t = .next t' ∧ s'.SameMachine t' ∧ s'.result = t'.result ∧
        s'.output = s.output ++ o ∧ t'.output = t.output ++ o ∧
        s'.response = s.response ++ b ∧ t'.response = t.response ++ b

/-! ### Stepping (43_stepping.md) -/

/-- R96 (R95, R97): the three next positions as functions of the old ones, written together. -/
def Obligations.StepAllSimultaneousForm : Prop :=
  ∀ s : State, s.Usable →
    let ma : Prop := s.pos.M = s.notch.M
    let ra : Prop := s.pos.R = s.notch.R
    exec .stepAll s = .next { s with
      pos := { L := if ma then mod26 ((s.pos.L.val : Int) + 1) else s.pos.L,
               M := if ma ∨ ra then mod26 ((s.pos.M.val : Int) + 1) else s.pos.M,
               R := mod26 ((s.pos.R.val : Int) + 1) },
      result := .none }

/-- R98: the double step over three keypresses, for any notches and letters. -/
def Obligations.MiddleRotorDoubleSteps : Prop :=
  ∀ (s : State) (a b c : Idx), s.Usable → s.pos.M = mod26 ((s.notch.M.val : Int) - 1) → s.pos.R = s.notch.R →
    ∃ t u v, exec (.key a) s = .next t ∧ exec (.key b) t = .next u ∧ exec (.key c) u = .next v ∧
      t.pos = ⟨s.pos.L, s.notch.M, mod26 ((s.notch.R.val : Int) + 1)⟩ ∧
      u.pos = ⟨mod26 ((s.pos.L.val : Int) + 1), mod26 ((s.notch.M.val : Int) + 1),
        mod26 ((s.notch.R.val : Int) + 2)⟩ ∧
      v.pos = ⟨mod26 ((s.pos.L.val : Int) + 1), mod26 ((s.notch.M.val : Int) + 1),
        mod26 ((s.notch.R.val : Int) + 3)⟩

/-- R99 (a) to (c): the positions after any number of keypresses depend on the starting positions and the notches alone,
and the middle rotor stays at its notch for one keypress only. -/
def Obligations.SteppingReadsPositionsAndNotchesOnly : Prop :=
  (∀ (s t : State) (n : Nat), s.pos = t.pos → s.notch = t.notch →
      ((fun u : State => u.stepAll)^[n] s).pos = ((fun u : State => u.stepAll)^[n] t).pos) ∧
    ∀ s : State, s.atNotch .M = true → s.stepAll.atNotch .M = false

/-! ### Signal path and keypress (44_signal_path.md) -/

/-- R100 (R102): the nine serial stages. -/
def Obligations.PathIsTheNineStages : Prop :=
  ∀ (s : State) (v : Idx), s.Usable →
    let out : Idx := s.forward .L (s.forward .M (s.forward .R (entry s.plug v)))
    let back : Idx := s.backward .R (s.backward .M (s.backward .L (entry s.reflector out)))
    exec (.path v) s = .next { s with result := .index (entry s.plug back) }

/-- R103: at a fixed state the path is its own inverse. -/
def Obligations.PathIsReciprocal : Prop :=
  ∀ (s : State) (x : Idx), s.Inv → s.configured = true → s.path (s.path x) = x

/-- R104: no letter enciphers to itself, by the path or by a keypress. -/
def Obligations.NoLetterEnciphersToItself : Prop :=
  ∀ (s : State) (x : Idx), s.Inv → s.configured = true → s.path x ≠ x ∧
    ∃ t y, exec (.key x) s = .next t ∧ t.result = .index y ∧ y ≠ x

/-- R105: the path is a bijection, and `PATH` and `KEY` give a result for every operand. -/
def Obligations.PathIsATotalBijection : Prop :=
  ∀ s : State, s.Inv → s.configured = true →
    Function.Bijective s.path ∧ (∀ x, s.path (s.path x) = x ∧ s.path x ≠ x) ∧
      ∀ v : Idx, (∃ t y, exec (.path v) s = .next t ∧ t.result = .index y) ∧
        ∃ t y, exec (.key v) s = .next t ∧ t.result = .index y

/-- R101 (R58): step first, then encipher at the stepped positions; only the positions are written. -/
def Obligations.KeyStepsThenEnciphers : Prop :=
  ∀ (s : State) (c : Idx), s.Usable →
    let stepped : State := { s with pos := s.stepAll.pos }
    s.stepAll = stepped ∧
      exec (.key c) s = .next { stepped with response := s.response ++ [BitVec.ofNat 8 (stepped.path c).val],
                                             result := .index (stepped.path c) }

/-- Section 2 of 30_encoding.md (R52, R55): an uppercase letter is keyed and answered by the uppercase letter of the
output index. -/
def Obligations.UppercaseLetterIsKeyed : Prop :=
  ∀ (s : State) (c : Idx), s.Usable →
    let stepped : State := { s with pos := s.stepAll.pos }
    ∃ y : Char, y.toNat = 0x41 + (stepped.path c).val ∧
      exec (.keyUpper c) s = .next { stepped with output := s.output ++ [y], result := .character y }

/-- R53: a lowercase letter is treated exactly as its uppercase letter; with folding off it passes unchanged. -/
def Obligations.LowercaseLetterFoldsOrPasses : Prop :=
  ∀ (s : State) (c : Idx), s.Usable →
    (s.foldLowercase = true → exec (.keyLower c) s = exec (.keyUpper c) s ∧ ∃ t, exec (.keyLower c) s = .next t) ∧
      (s.foldLowercase = false → ∃ x : Char, x.toNat = 0x61 + c.val ∧
        exec (.keyLower c) s = .next { s with output := s.output ++ [x], result := .character x })

/-! ### Text processing (45_process.md) -/

/-- Section 1 of 45_process.md (R111): `PASS` copies the character, steps nothing, and in format H does nothing at all.
R111 gives `PASS` an operand that is no letter; that `exec` copies a letter operand too is the model's (log entry 12). -/
def Obligations.PassStepsNothing : Prop :=
  ∀ s : State, s.Usable →
    exec .pass s = .next { s with result := .none } ∧
      ∀ x : Char, exec (.passChar x) s = .next { s with output := s.output ++ [x], result := .character x }

/-- R110: the three branches of `CHAR`. -/
def Obligations.CharTakesItsBranch : Prop :=
  ∀ (s : State) (x : Char), s.Usable →
    (∀ c : Idx, x.toNat = 0x41 + c.val → exec (.char x) s = exec (.keyUpper c) s) ∧
      (∀ c : Idx, s.foldLowercase = true → x.toNat = 0x61 + c.val → exec (.char x) s = exec (.keyUpper c) s) ∧
      (¬ (0x41 ≤ x.toNat ∧ x.toNat ≤ 0x5A) →
        ¬ (s.foldLowercase = true ∧ 0x61 ≤ x.toNat ∧ x.toNat ≤ 0x7A) → exec (.char x) s = exec (.passChar x) s) ∧
      ∃ t, exec (.char x) s = .next t

/-- R112: `PROCESS` is `CHAR` on the first character and `PROCESS` on the rest, the results joined in order. -/
def Obligations.ProcessTakesCharactersInOrder : Prop :=
  ∀ s : State, s.Usable →
    exec (.process []) s = .next { s with result := .text [] } ∧
      ∀ (x : Char) (m : List Char), ∃ t u y o, exec (.char x) s = .next t ∧ t.result = .character y ∧
        exec (.process m) t = .next u ∧ u.result = .text o ∧
        exec (.process (x :: m)) s = .next { u with result := .text (y :: o) }

/-- R113: a text without letters comes out as it went in and changes no register; the empty one in particular. -/
def Obligations.TextWithoutLettersChangesNothing : Prop :=
  ∀ (s : State) (m : List Char), s.Usable → (∀ x ∈ m, letterOf s.foldLowercase x = none) →
    exec (.process m) s = .next { s with output := s.output ++ m, result := .text m }

/-- R114 (a) to (e): pass-through invariance. -/
def Obligations.PassThroughInvariance : Prop :=
  ∀ (s : State) (m : List Char), s.Inv → s.configured = true →
    ∃ u o, exec (.process m) s = .next u ∧ u.result = .text o ∧ o.length = m.length ∧
      (∀ (k : Nat) (x : Char), m[k]? = some x → letterOf s.foldLowercase x = none → o[k]? = some x) ∧
      (∀ (k : Nat) (x : Char) (c : Idx), m[k]? = some x → letterOf s.foldLowercase x = some c →
        ∃ y : Idx, o[k]? = some (letter y) ∧ y ≠ c) ∧
      u.pos = ((fun v : State => v.stepAll)^[letterCount s.foldLowercase m] s).pos ∧
      ∃ w, exec (.process (m.filter (fun x => (letterOf s.foldLowercase x).isSome))) s = .next w ∧
        w.result = .text (o.filter (fun x => (letterOf s.foldLowercase x).isSome))

/-- R115: `PROCESS` goes on from the current positions; two texts in turn are their concatenation. -/
def Obligations.ProcessConcatenates : Prop :=
  ∀ (s : State) (a b : List Char), s.Usable →
    ∃ t u o₁ o₂, exec (.process a) s = .next t ∧ t.result = .text o₁ ∧ exec (.process b) t = .next u ∧
      u.result = .text o₂ ∧ exec (.process (a ++ b)) s = .next { u with result := .text (o₁ ++ o₂) }

/-- Section 1 of 45_process.md (R112, R24, R126): format T text taken one character a step gives what `PROCESS` gives in
one (that the host's text waits in the input is the model's, log entry 4). -/
def Obligations.CharacterStepsRefineProcess : Prop :=
  ∀ (s : State) (m : List Char) (q : List Request), s.Usable → s.input = .text m :: q →
    ∃ u w : State, Host.Core.run Sys2Proof.core m.length s = .next u ∧ exec (.process m) s = .next w ∧
      u = { w with input := .text [] :: q, result := u.result }

/-- R116: the three positions, left rotor first, without side effect. -/
def Obligations.PositionsAreReadWithoutEffect : Prop :=
  ∀ s : State, s.Usable →
    let three : List Byte := [BitVec.ofNat 8 s.pos.L.val, BitVec.ofNat 8 s.pos.M.val, BitVec.ofNat 8 s.pos.R.val]
    exec .rdpos s = .next { s with response := s.response ++ three, result := .positions s.pos }

/-- R117: the round trip on two instances freshly configured alike; exact for texts without lowercase letters, and for
every text when folding is off (90_conflicts.md C6). -/
def Obligations.RoundTripOnTwoInstances : Prop :=
  (∀ (s₁ s₂ : State) (k : Configuration) (m : List Char), s₁.parametersOk = true → s₁.SameHardware s₂ →
      validate s₁.catalog.length k = .noError →
      ∃ t₁ u₁ t₂ u₂ c, exec (.config k) s₁ = .next t₁ ∧ exec (.process m) t₁ = .next u₁ ∧ u₁.result = .text c ∧
        exec (.config k) s₂ = .next t₂ ∧ exec (.process c) t₂ = .next u₂ ∧
        u₂.result = .text (foldText s₁.foldLowercase m)) ∧
    (∀ m : List Char, foldText true m = m ↔ ∀ x ∈ m, lowerIndex x = none) ∧ ∀ m : List Char, foldText false m = m

/-- R63: `ENCRYPT` and `DECRYPT` are one operation: `CONFIG` then `PROCESS` on a new instance, this one untouched but for
the result; when the construction fails the result is its cause (log entry 11). -/
def Obligations.EncryptRunsOnANewInstance : Prop :=
  ∀ (s : State) (k : Configuration) (m : List Char), s.parametersOk = true →
    ∃ r, exec (.encrypt k m) s = .next { s with result := r } ∧ exec (.decrypt k m) s = .next { s with result := r } ∧
      ∀ fresh t, s.SameHardware fresh → exec (.config k) fresh = .next t →
        (t.configured = true → ∃ u, exec (.process m) t = .next u ∧ r = u.result) ∧
          (t.configured = false → r = .status t.err)
end

