-- ==== Sys2Proof/Laws/Index.lean ====
section
/-! SUPPORT. Small laws of indices: reduction mod 26, the rotor shifts, code points of letters. -/

namespace Sys2Proof.Machine

open Sys2Proof

@[simp] theorem mem_allIdx (i : Idx) : i ∈ allIdx := by revert i; decide

theorem mod26_val (a : Int) : ((mod26 a).val : Int) = a % 26 := by
  simp only [mod26]; omega

@[simp] theorem mod26_idx (i : Idx) : mod26 (i.val : Int) = i := by
  apply Fin.ext; simp only [mod26]; omega

/-- A value in range is its own index (R86 lets `CONFIG` write only such values). -/
theorem mod26_inIdx {v : Int} (h : inIdx v = true) : ((mod26 v).val : Int) = v := by
  simp only [inIdx, Bool.and_eq_true, decide_eq_true_eq] at h
  rw [mod26_val]; omega

theorem enterRotor_val (p g v : Idx) : ((enterRotor p g v).val : Int) = ((v.val : Int) + p.val - g.val) % 26 :=
  mod26_val _

theorem leaveRotor_val (p g w : Idx) : ((leaveRotor p g w).val : Int) = ((w.val : Int) - p.val + g.val) % 26 :=
  mod26_val _

/-- The exit un-shift undoes the entry shift. -/
@[simp] theorem leaveRotor_enterRotor (p g v : Idx) : leaveRotor p g (enterRotor p g v) = v := by
  apply Fin.ext
  have h := leaveRotor_val p g (enterRotor p g v)
  rw [enterRotor_val] at h
  omega

/-- The entry shift undoes the exit un-shift. -/
@[simp] theorem enterRotor_leaveRotor (p g w : Idx) : enterRotor p g (leaveRotor p g w) = w := by
  apply Fin.ext
  have h := enterRotor_val p g (leaveRotor p g w)
  rw [leaveRotor_val] at h
  omega

theorem letter_toNat (i : Idx) : (letter i).toNat = 0x41 + i.val := by revert i; decide

theorem lowerLetter_toNat (i : Idx) : (lowerLetter i).toNat = 0x61 + i.val := by revert i; decide

theorem indexFrom_eq_some {base n : Nat} {i : Idx} : indexFrom base n = some i ↔ n = base + i.val := by
  unfold indexFrom
  split
  · simp only [Option.some.injEq, Fin.ext_iff]; omega
  · constructor
    · intro h; cases h
    · intro h; have := i.isLt; omega

@[simp] theorem upperIndex_letter (i : Idx) : upperIndex (letter i) = some i := by
  simp [upperIndex, indexFrom_eq_some, letter_toNat]

@[simp] theorem lowerIndex_lowerLetter (i : Idx) : lowerIndex (lowerLetter i) = some i := by
  simp [lowerIndex, indexFrom_eq_some, lowerLetter_toNat]

@[simp] theorem letterOf_letter (fold : Bool) (i : Idx) : letterOf fold (letter i) = some i := by
  simp [letterOf]

end Sys2Proof.Machine
end

