-- ==== Sys2Proof/Laws/State.lean ====
section
/-! SUPPORT. What each named update of State does to each field, true by unfolding once. -/

namespace Sys2Proof.Machine

open Sys2Proof

variable (s : State)

/-! ### `State.withPos` -/

@[simp] theorem State.withPos_catalog (p : PerSlot Idx) : (s.withPos p).catalog = s.catalog := rfl
@[simp] theorem State.withPos_reflector (p : PerSlot Idx) : (s.withPos p).reflector = s.reflector := rfl
@[simp] theorem State.withPos_foldLowercase (p : PerSlot Idx) : (s.withPos p).foldLowercase = s.foldLowercase := rfl
@[simp] theorem State.withPos_sel (p : PerSlot Idx) : (s.withPos p).sel = s.sel := rfl
@[simp] theorem State.withPos_wiring (p : PerSlot Idx) : (s.withPos p).wiring = s.wiring := rfl
@[simp] theorem State.withPos_notch (p : PerSlot Idx) : (s.withPos p).notch = s.notch := rfl
@[simp] theorem State.withPos_pos (p : PerSlot Idx) : (s.withPos p).pos = p := rfl
@[simp] theorem State.withPos_ring (p : PerSlot Idx) : (s.withPos p).ring = s.ring := rfl
@[simp] theorem State.withPos_plug (p : PerSlot Idx) : (s.withPos p).plug = s.plug := rfl
@[simp] theorem State.withPos_configured (p : PerSlot Idx) : (s.withPos p).configured = s.configured := rfl
@[simp] theorem State.withPos_err (p : PerSlot Idx) : (s.withPos p).err = s.err := rfl
@[simp] theorem State.withPos_input (p : PerSlot Idx) : (s.withPos p).input = s.input := rfl
@[simp] theorem State.withPos_output (p : PerSlot Idx) : (s.withPos p).output = s.output := rfl
@[simp] theorem State.withPos_response (p : PerSlot Idx) : (s.withPos p).response = s.response := rfl
@[simp] theorem State.withPos_result (p : PerSlot Idx) : (s.withPos p).result = s.result := rfl
@[simp] theorem State.withPos_freeCount (p : PerSlot Idx) : (s.withPos p).freeCount = s.freeCount := rfl

/-- Of two writes of the positions the second stands. -/
@[simp] theorem State.withPos_withPos (p q : PerSlot Idx) : (s.withPos p).withPos q = s.withPos q := rfl
@[simp] theorem State.withPos_self : s.withPos s.pos = s := rfl

/-! ### `State.stepRotor` -/

@[simp] theorem State.stepRotor_catalog (r : Slot) : (s.stepRotor r).catalog = s.catalog := rfl
@[simp] theorem State.stepRotor_reflector (r : Slot) : (s.stepRotor r).reflector = s.reflector := rfl
@[simp] theorem State.stepRotor_foldLowercase (r : Slot) : (s.stepRotor r).foldLowercase = s.foldLowercase := rfl
@[simp] theorem State.stepRotor_sel (r : Slot) : (s.stepRotor r).sel = s.sel := rfl
@[simp] theorem State.stepRotor_wiring (r : Slot) : (s.stepRotor r).wiring = s.wiring := rfl
@[simp] theorem State.stepRotor_notch (r : Slot) : (s.stepRotor r).notch = s.notch := rfl
@[simp] theorem State.stepRotor_pos (r : Slot) : (s.stepRotor r).pos = s.pos.set r (nextPosition (s.pos.get r)) := rfl
@[simp] theorem State.stepRotor_ring (r : Slot) : (s.stepRotor r).ring = s.ring := rfl
@[simp] theorem State.stepRotor_plug (r : Slot) : (s.stepRotor r).plug = s.plug := rfl
@[simp] theorem State.stepRotor_configured (r : Slot) : (s.stepRotor r).configured = s.configured := rfl
@[simp] theorem State.stepRotor_err (r : Slot) : (s.stepRotor r).err = s.err := rfl
@[simp] theorem State.stepRotor_input (r : Slot) : (s.stepRotor r).input = s.input := rfl
@[simp] theorem State.stepRotor_output (r : Slot) : (s.stepRotor r).output = s.output := rfl
@[simp] theorem State.stepRotor_response (r : Slot) : (s.stepRotor r).response = s.response := rfl
@[simp] theorem State.stepRotor_result (r : Slot) : (s.stepRotor r).result = s.result := rfl
@[simp] theorem State.stepRotor_freeCount (r : Slot) : (s.stepRotor r).freeCount = s.freeCount := rfl

/-! ### `State.withResult` -/

@[simp] theorem State.withResult_catalog (x : Result) : (s.withResult x).catalog = s.catalog := rfl
@[simp] theorem State.withResult_reflector (x : Result) : (s.withResult x).reflector = s.reflector := rfl
@[simp] theorem State.withResult_foldLowercase (x : Result) : (s.withResult x).foldLowercase = s.foldLowercase := rfl
@[simp] theorem State.withResult_sel (x : Result) : (s.withResult x).sel = s.sel := rfl
@[simp] theorem State.withResult_wiring (x : Result) : (s.withResult x).wiring = s.wiring := rfl
@[simp] theorem State.withResult_notch (x : Result) : (s.withResult x).notch = s.notch := rfl
@[simp] theorem State.withResult_pos (x : Result) : (s.withResult x).pos = s.pos := rfl
@[simp] theorem State.withResult_ring (x : Result) : (s.withResult x).ring = s.ring := rfl
@[simp] theorem State.withResult_plug (x : Result) : (s.withResult x).plug = s.plug := rfl
@[simp] theorem State.withResult_configured (x : Result) : (s.withResult x).configured = s.configured := rfl
@[simp] theorem State.withResult_err (x : Result) : (s.withResult x).err = s.err := rfl
@[simp] theorem State.withResult_input (x : Result) : (s.withResult x).input = s.input := rfl
@[simp] theorem State.withResult_output (x : Result) : (s.withResult x).output = s.output := rfl
@[simp] theorem State.withResult_response (x : Result) : (s.withResult x).response = s.response := rfl
@[simp] theorem State.withResult_result (x : Result) : (s.withResult x).result = x := rfl
@[simp] theorem State.withResult_freeCount (x : Result) : (s.withResult x).freeCount = s.freeCount := rfl

/-! ### `State.emitText` -/

@[simp] theorem State.emitText_catalog (t : List Char) : (s.emitText t).catalog = s.catalog := rfl
@[simp] theorem State.emitText_reflector (t : List Char) : (s.emitText t).reflector = s.reflector := rfl
@[simp] theorem State.emitText_foldLowercase (t : List Char) : (s.emitText t).foldLowercase = s.foldLowercase := rfl
@[simp] theorem State.emitText_sel (t : List Char) : (s.emitText t).sel = s.sel := rfl
@[simp] theorem State.emitText_wiring (t : List Char) : (s.emitText t).wiring = s.wiring := rfl
@[simp] theorem State.emitText_notch (t : List Char) : (s.emitText t).notch = s.notch := rfl
@[simp] theorem State.emitText_pos (t : List Char) : (s.emitText t).pos = s.pos := rfl
@[simp] theorem State.emitText_ring (t : List Char) : (s.emitText t).ring = s.ring := rfl
@[simp] theorem State.emitText_plug (t : List Char) : (s.emitText t).plug = s.plug := rfl
@[simp] theorem State.emitText_configured (t : List Char) : (s.emitText t).configured = s.configured := rfl
@[simp] theorem State.emitText_err (t : List Char) : (s.emitText t).err = s.err := rfl
@[simp] theorem State.emitText_input (t : List Char) : (s.emitText t).input = s.input := rfl
@[simp] theorem State.emitText_output (t : List Char) : (s.emitText t).output = s.output ++ t := rfl
@[simp] theorem State.emitText_response (t : List Char) : (s.emitText t).response = s.response := rfl
@[simp] theorem State.emitText_result (t : List Char) : (s.emitText t).result = s.result := rfl
@[simp] theorem State.emitText_freeCount (t : List Char) : (s.emitText t).freeCount = s.freeCount := rfl

/-! ### `State.respond` -/

@[simp] theorem State.respond_catalog (bs : List Byte) : (s.respond bs).catalog = s.catalog := rfl
@[simp] theorem State.respond_reflector (bs : List Byte) : (s.respond bs).reflector = s.reflector := rfl
@[simp] theorem State.respond_foldLowercase (bs : List Byte) : (s.respond bs).foldLowercase = s.foldLowercase := rfl
@[simp] theorem State.respond_sel (bs : List Byte) : (s.respond bs).sel = s.sel := rfl
@[simp] theorem State.respond_wiring (bs : List Byte) : (s.respond bs).wiring = s.wiring := rfl
@[simp] theorem State.respond_notch (bs : List Byte) : (s.respond bs).notch = s.notch := rfl
@[simp] theorem State.respond_pos (bs : List Byte) : (s.respond bs).pos = s.pos := rfl
@[simp] theorem State.respond_ring (bs : List Byte) : (s.respond bs).ring = s.ring := rfl
@[simp] theorem State.respond_plug (bs : List Byte) : (s.respond bs).plug = s.plug := rfl
@[simp] theorem State.respond_configured (bs : List Byte) : (s.respond bs).configured = s.configured := rfl
@[simp] theorem State.respond_err (bs : List Byte) : (s.respond bs).err = s.err := rfl
@[simp] theorem State.respond_input (bs : List Byte) : (s.respond bs).input = s.input := rfl
@[simp] theorem State.respond_output (bs : List Byte) : (s.respond bs).output = s.output := rfl
@[simp] theorem State.respond_response (bs : List Byte) : (s.respond bs).response = s.response ++ bs := rfl
@[simp] theorem State.respond_result (bs : List Byte) : (s.respond bs).result = s.result := rfl
@[simp] theorem State.respond_freeCount (bs : List Byte) : (s.respond bs).freeCount = s.freeCount := rfl

/-! ### `State.withInput` -/

@[simp] theorem State.withInput_catalog (q : List Request) : (s.withInput q).catalog = s.catalog := rfl
@[simp] theorem State.withInput_reflector (q : List Request) : (s.withInput q).reflector = s.reflector := rfl
@[simp] theorem State.withInput_foldLowercase (q : List Request) : (s.withInput q).foldLowercase = s.foldLowercase := rfl
@[simp] theorem State.withInput_sel (q : List Request) : (s.withInput q).sel = s.sel := rfl
@[simp] theorem State.withInput_wiring (q : List Request) : (s.withInput q).wiring = s.wiring := rfl
@[simp] theorem State.withInput_notch (q : List Request) : (s.withInput q).notch = s.notch := rfl
@[simp] theorem State.withInput_pos (q : List Request) : (s.withInput q).pos = s.pos := rfl
@[simp] theorem State.withInput_ring (q : List Request) : (s.withInput q).ring = s.ring := rfl
@[simp] theorem State.withInput_plug (q : List Request) : (s.withInput q).plug = s.plug := rfl
@[simp] theorem State.withInput_configured (q : List Request) : (s.withInput q).configured = s.configured := rfl
@[simp] theorem State.withInput_err (q : List Request) : (s.withInput q).err = s.err := rfl
@[simp] theorem State.withInput_input (q : List Request) : (s.withInput q).input = q := rfl
@[simp] theorem State.withInput_output (q : List Request) : (s.withInput q).output = s.output := rfl
@[simp] theorem State.withInput_response (q : List Request) : (s.withInput q).response = s.response := rfl
@[simp] theorem State.withInput_result (q : List Request) : (s.withInput q).result = s.result := rfl
@[simp] theorem State.withInput_freeCount (q : List Request) : (s.withInput q).freeCount = s.freeCount := rfl

/-! ### `State.issueBytes` -/

@[simp] theorem State.issueBytes_catalog (bs : List Byte) : (s.issueBytes bs).catalog = s.catalog := rfl
@[simp] theorem State.issueBytes_reflector (bs : List Byte) : (s.issueBytes bs).reflector = s.reflector := rfl
@[simp] theorem State.issueBytes_foldLowercase (bs : List Byte) : (s.issueBytes bs).foldLowercase = s.foldLowercase := rfl
@[simp] theorem State.issueBytes_sel (bs : List Byte) : (s.issueBytes bs).sel = s.sel := rfl
@[simp] theorem State.issueBytes_wiring (bs : List Byte) : (s.issueBytes bs).wiring = s.wiring := rfl
@[simp] theorem State.issueBytes_notch (bs : List Byte) : (s.issueBytes bs).notch = s.notch := rfl
@[simp] theorem State.issueBytes_pos (bs : List Byte) : (s.issueBytes bs).pos = s.pos := rfl
@[simp] theorem State.issueBytes_ring (bs : List Byte) : (s.issueBytes bs).ring = s.ring := rfl
@[simp] theorem State.issueBytes_plug (bs : List Byte) : (s.issueBytes bs).plug = s.plug := rfl
@[simp] theorem State.issueBytes_configured (bs : List Byte) : (s.issueBytes bs).configured = s.configured := rfl
@[simp] theorem State.issueBytes_err (bs : List Byte) : (s.issueBytes bs).err = s.err := rfl
@[simp] theorem State.issueBytes_input (bs : List Byte) : (s.issueBytes bs).input = .bytes bs :: s.input := rfl
@[simp] theorem State.issueBytes_output (bs : List Byte) : (s.issueBytes bs).output = s.output := rfl
@[simp] theorem State.issueBytes_response (bs : List Byte) : (s.issueBytes bs).response = s.response := rfl
@[simp] theorem State.issueBytes_result (bs : List Byte) : (s.issueBytes bs).result = s.result := rfl
@[simp] theorem State.issueBytes_freeCount (bs : List Byte) : (s.issueBytes bs).freeCount = s.freeCount := rfl

/-! ### `State.loadBank` -/

@[simp] theorem State.loadBank_catalog (b : Bank) : (s.loadBank b).catalog = s.catalog := rfl
@[simp] theorem State.loadBank_reflector (b : Bank) : (s.loadBank b).reflector = s.reflector := rfl
@[simp] theorem State.loadBank_foldLowercase (b : Bank) : (s.loadBank b).foldLowercase = s.foldLowercase := rfl
@[simp] theorem State.loadBank_sel (b : Bank) : (s.loadBank b).sel = b.sel := rfl
@[simp] theorem State.loadBank_wiring (b : Bank) : (s.loadBank b).wiring = b.wiring := rfl
@[simp] theorem State.loadBank_notch (b : Bank) : (s.loadBank b).notch = b.notch := rfl
@[simp] theorem State.loadBank_pos (b : Bank) : (s.loadBank b).pos = b.pos := rfl
@[simp] theorem State.loadBank_ring (b : Bank) : (s.loadBank b).ring = b.ring := rfl
@[simp] theorem State.loadBank_plug (b : Bank) : (s.loadBank b).plug = b.plug := rfl
@[simp] theorem State.loadBank_configured (b : Bank) : (s.loadBank b).configured = s.configured := rfl
@[simp] theorem State.loadBank_err (b : Bank) : (s.loadBank b).err = s.err := rfl
@[simp] theorem State.loadBank_input (b : Bank) : (s.loadBank b).input = s.input := rfl
@[simp] theorem State.loadBank_output (b : Bank) : (s.loadBank b).output = s.output := rfl
@[simp] theorem State.loadBank_response (b : Bank) : (s.loadBank b).response = s.response := rfl
@[simp] theorem State.loadBank_result (b : Bank) : (s.loadBank b).result = s.result := rfl
@[simp] theorem State.loadBank_freeCount (b : Bank) : (s.loadBank b).freeCount = s.freeCount := rfl

/-! ### `State.loseRegisters` -/

@[simp] theorem State.loseRegisters_catalog : (s.loseRegisters).catalog = s.catalog := rfl
@[simp] theorem State.loseRegisters_reflector : (s.loseRegisters).reflector = s.reflector := rfl
@[simp] theorem State.loseRegisters_foldLowercase : (s.loseRegisters).foldLowercase = s.foldLowercase := rfl
@[simp] theorem State.loseRegisters_sel : (s.loseRegisters).sel = (Config.freeBank s.freeCount).sel := rfl
@[simp] theorem State.loseRegisters_wiring : (s.loseRegisters).wiring = (Config.freeBank s.freeCount).wiring := rfl
@[simp] theorem State.loseRegisters_notch : (s.loseRegisters).notch = (Config.freeBank s.freeCount).notch := rfl
@[simp] theorem State.loseRegisters_pos : (s.loseRegisters).pos = (Config.freeBank s.freeCount).pos := rfl
@[simp] theorem State.loseRegisters_ring : (s.loseRegisters).ring = (Config.freeBank s.freeCount).ring := rfl
@[simp] theorem State.loseRegisters_plug : (s.loseRegisters).plug = (Config.freeBank s.freeCount).plug := rfl
@[simp] theorem State.loseRegisters_configured : (s.loseRegisters).configured = s.configured := rfl
@[simp] theorem State.loseRegisters_err : (s.loseRegisters).err = s.err := rfl
@[simp] theorem State.loseRegisters_input : (s.loseRegisters).input = s.input := rfl
@[simp] theorem State.loseRegisters_output : (s.loseRegisters).output = s.output := rfl
@[simp] theorem State.loseRegisters_response : (s.loseRegisters).response = s.response := rfl
@[simp] theorem State.loseRegisters_result : (s.loseRegisters).result = s.result := rfl
@[simp] theorem State.loseRegisters_freeCount : (s.loseRegisters).freeCount = s.freeCount + 1 := rfl

/-! ### `State.raiseConfigError` -/

@[simp] theorem State.raiseConfigError_catalog (c : Cause) : (s.raiseConfigError c).catalog = s.catalog := rfl
@[simp] theorem State.raiseConfigError_reflector (c : Cause) : (s.raiseConfigError c).reflector = s.reflector := rfl
@[simp] theorem State.raiseConfigError_foldLowercase (c : Cause) : (s.raiseConfigError c).foldLowercase = s.foldLowercase := rfl
@[simp] theorem State.raiseConfigError_sel (c : Cause) : (s.raiseConfigError c).sel = (Config.freeBank s.freeCount).sel := rfl
@[simp] theorem State.raiseConfigError_wiring (c : Cause) : (s.raiseConfigError c).wiring = (Config.freeBank s.freeCount).wiring := rfl
@[simp] theorem State.raiseConfigError_notch (c : Cause) : (s.raiseConfigError c).notch = (Config.freeBank s.freeCount).notch := rfl
@[simp] theorem State.raiseConfigError_pos (c : Cause) : (s.raiseConfigError c).pos = (Config.freeBank s.freeCount).pos := rfl
@[simp] theorem State.raiseConfigError_ring (c : Cause) : (s.raiseConfigError c).ring = (Config.freeBank s.freeCount).ring := rfl
@[simp] theorem State.raiseConfigError_plug (c : Cause) : (s.raiseConfigError c).plug = (Config.freeBank s.freeCount).plug := rfl
@[simp] theorem State.raiseConfigError_configured (c : Cause) : (s.raiseConfigError c).configured = false := rfl
@[simp] theorem State.raiseConfigError_err (c : Cause) : (s.raiseConfigError c).err = c := rfl
@[simp] theorem State.raiseConfigError_input (c : Cause) : (s.raiseConfigError c).input = s.input := rfl
@[simp] theorem State.raiseConfigError_output (c : Cause) : (s.raiseConfigError c).output = s.output := rfl
@[simp] theorem State.raiseConfigError_response (c : Cause) : (s.raiseConfigError c).response = s.response := rfl
@[simp] theorem State.raiseConfigError_result (c : Cause) : (s.raiseConfigError c).result = s.result := rfl
@[simp] theorem State.raiseConfigError_freeCount (c : Cause) : (s.raiseConfigError c).freeCount = s.freeCount + 1 := rfl

/-! ### `State.install` -/

@[simp] theorem State.install_catalog (k : Configuration) : (s.install k).catalog = s.catalog := rfl
@[simp] theorem State.install_reflector (k : Configuration) : (s.install k).reflector = s.reflector := rfl
@[simp] theorem State.install_foldLowercase (k : Configuration) : (s.install k).foldLowercase = s.foldLowercase := rfl
@[simp] theorem State.install_sel (k : Configuration) : (s.install k).sel = (configuredBank s.catalog k).sel := rfl
@[simp] theorem State.install_wiring (k : Configuration) : (s.install k).wiring = (configuredBank s.catalog k).wiring := rfl
@[simp] theorem State.install_notch (k : Configuration) : (s.install k).notch = (configuredBank s.catalog k).notch := rfl
@[simp] theorem State.install_pos (k : Configuration) : (s.install k).pos = (configuredBank s.catalog k).pos := rfl
@[simp] theorem State.install_ring (k : Configuration) : (s.install k).ring = (configuredBank s.catalog k).ring := rfl
@[simp] theorem State.install_plug (k : Configuration) : (s.install k).plug = (configuredBank s.catalog k).plug := rfl
@[simp] theorem State.install_configured (k : Configuration) : (s.install k).configured = true := rfl
@[simp] theorem State.install_err (k : Configuration) : (s.install k).err = .noError := rfl
@[simp] theorem State.install_input (k : Configuration) : (s.install k).input = s.input := rfl
@[simp] theorem State.install_output (k : Configuration) : (s.install k).output = s.output := rfl
@[simp] theorem State.install_response (k : Configuration) : (s.install k).response = s.response := rfl
@[simp] theorem State.install_result (k : Configuration) : (s.install k).result = s.result := rfl
@[simp] theorem State.install_freeCount (k : Configuration) : (s.install k).freeCount = s.freeCount := rfl

/-! ### `State.hardwareReset` -/

@[simp] theorem State.hardwareReset_catalog : (s.hardwareReset).catalog = s.catalog := rfl
@[simp] theorem State.hardwareReset_reflector : (s.hardwareReset).reflector = s.reflector := rfl
@[simp] theorem State.hardwareReset_foldLowercase : (s.hardwareReset).foldLowercase = s.foldLowercase := rfl
@[simp] theorem State.hardwareReset_sel : (s.hardwareReset).sel = (Config.freeBank s.freeCount).sel := rfl
@[simp] theorem State.hardwareReset_wiring : (s.hardwareReset).wiring = (Config.freeBank s.freeCount).wiring := rfl
@[simp] theorem State.hardwareReset_notch : (s.hardwareReset).notch = (Config.freeBank s.freeCount).notch := rfl
@[simp] theorem State.hardwareReset_pos : (s.hardwareReset).pos = (Config.freeBank s.freeCount).pos := rfl
@[simp] theorem State.hardwareReset_ring : (s.hardwareReset).ring = (Config.freeBank s.freeCount).ring := rfl
@[simp] theorem State.hardwareReset_plug : (s.hardwareReset).plug = (Config.freeBank s.freeCount).plug := rfl
@[simp] theorem State.hardwareReset_configured : (s.hardwareReset).configured = false := rfl
@[simp] theorem State.hardwareReset_err : (s.hardwareReset).err = .noError := rfl
@[simp] theorem State.hardwareReset_input : (s.hardwareReset).input = s.input := rfl
@[simp] theorem State.hardwareReset_output : (s.hardwareReset).output = s.output := rfl
@[simp] theorem State.hardwareReset_response : (s.hardwareReset).response = s.response := rfl
@[simp] theorem State.hardwareReset_result : (s.hardwareReset).result = .none := rfl
@[simp] theorem State.hardwareReset_freeCount : (s.hardwareReset).freeCount = s.freeCount + 1 := rfl

/-! ### `State.newInstance` -/

@[simp] theorem State.newInstance_catalog : (s.newInstance).catalog = s.catalog := rfl
@[simp] theorem State.newInstance_reflector : (s.newInstance).reflector = s.reflector := rfl
@[simp] theorem State.newInstance_foldLowercase : (s.newInstance).foldLowercase = s.foldLowercase := rfl
@[simp] theorem State.newInstance_sel : (s.newInstance).sel = ⟨0, 0, 0⟩ := rfl
@[simp] theorem State.newInstance_wiring : (s.newInstance).wiring = ⟨identityTable, identityTable, identityTable⟩ := rfl
@[simp] theorem State.newInstance_notch : (s.newInstance).notch = ⟨0, 0, 0⟩ := rfl
@[simp] theorem State.newInstance_pos : (s.newInstance).pos = ⟨0, 0, 0⟩ := rfl
@[simp] theorem State.newInstance_ring : (s.newInstance).ring = ⟨0, 0, 0⟩ := rfl
@[simp] theorem State.newInstance_plug : (s.newInstance).plug = identityTable := rfl
@[simp] theorem State.newInstance_configured : (s.newInstance).configured = false := rfl
@[simp] theorem State.newInstance_err : (s.newInstance).err = .noError := rfl
@[simp] theorem State.newInstance_input : (s.newInstance).input = [] := rfl
@[simp] theorem State.newInstance_output : (s.newInstance).output = [] := rfl
@[simp] theorem State.newInstance_response : (s.newInstance).response = [] := rfl
@[simp] theorem State.newInstance_result : (s.newInstance).result = .none := rfl
@[simp] theorem State.newInstance_freeCount : (s.newInstance).freeCount = 0 := rfl

end Sys2Proof.Machine
end

