-- ==== Sys2Proof/Laws/Tables.lean ====
section
/-! SUPPORT. Small laws of tables: what the checks mean, what the inverse lookup finds, what a write does. -/

namespace Sys2Proof.Machine

open Sys2Proof

theorem isBijection_iff_surjective {t : Table} : isBijection t = true ↔ Function.Surjective (entry t) := by
  simp [isBijection, Function.Surjective]

theorem isBijection_iff {t : Table} : isBijection t = true ↔ Function.Bijective (entry t) := by
  rw [isBijection_iff_surjective, Finite.surjective_iff_bijective]

theorem isInvolution_iff {t : Table} : isInvolution t = true ↔ ∀ i, entry t (entry t i) = i := by
  simp [isInvolution]

theorem hasNoFixedPoint_iff {t : Table} : hasNoFixedPoint t = true ↔ ∀ i, entry t i ≠ i := by
  simp [hasNoFixedPoint]

/-- The inverse lookup finds an index whose entry is the value (R38). -/
theorem entry_preimage {t : Table} (h : isBijection t = true) (v : Idx) : entry t (preimage t v) = v := by
  obtain ⟨i, hi⟩ := isBijection_iff_surjective.1 h v
  cases hf : allIdx.find? (fun i => entry t i == v) with
  | none => simp_all
  | some j => simpa [preimage, hf] using List.find?_some hf

@[simp] theorem entry_identityTable (i : Idx) : entry identityTable i = i := by revert i; decide

/-- A write reaches its own entry and no other. -/
theorem entry_set (t : Table) (i j w : Idx) : entry (t.set i.val w) j = if i = j then w else entry t j := by
  simp only [entry, Vector.get_eq_getElem, Vector.getElem_set, Fin.ext_iff]

/-- What wiring one pair does to each entry (R89). -/
theorem entry_plugPair (t : Table) (p : Int × Int) (v : Idx) :
    entry (plugPair t p) v =
      if mod26 p.2 = v then mod26 p.1 else if mod26 p.1 = v then mod26 p.2 else entry t v := by
  simp only [plugPair, entry_set]

end Sys2Proof.Machine
end

