-- ==== Sys2Proof/Laws/Ops.lean ====
section
/-! SUPPORT. For each shared operation, one law that says what it can do. -/

namespace Sys2Proof.Machine

open Sys2Proof

/-- On a usable instance a command takes its next state. -/
theorem State.onConfigured_usable {s : State} (h : s.Usable) (t : State) : s.onConfigured t = .next t := by
  simp [State.onConfigured, State.obstacle, h.1, h.2.1, h.2.2]

/-- A next state of a command that needs a configured instance is the one the command computes. -/
theorem State.onConfigured_next {s t u : State} (h : s.onConfigured t = .next u) : s.Usable ∧ u = t := by
  unfold State.onConfigured at h
  split at h
  · cases h
  · rename_i ho
    injection h with h
    refine ⟨?_, h.symm⟩
    unfold State.obstacle at ho
    split at ho
    · cases ho
    · split at ho
      · cases ho
      · split at ho
        · cases ho
        · simp_all [State.Usable]

/-- The refusal is the same for every command that needs a configured instance. -/
theorem State.onConfigured_refused {s t : State} {r : Refusal} (h : s.obstacle = some r) :
    s.onConfigured t = .refused r := by
  simp [State.onConfigured, h]

/-- `STEPALL` writes the positions and nothing else (R95). -/
theorem State.stepAll_frame (s : State) : s.stepAll = s.withPos s.stepAll.pos := by
  unfold State.stepAll
  by_cases hm : s.atNotch .M = true <;> by_cases hr : s.atNotch .R = true <;> simp [hm, hr, State.stepRotor]

theorem State.charNext_cases (s : State) (x : Char) :
    (∃ c, letterOf s.foldLowercase x = some c ∧ s.charNext x = s.stepAll ∧ s.charResult x = letter (s.keyed c)) ∨
      (letterOf s.foldLowercase x = none ∧ s.charNext x = s ∧ s.charResult x = x) := by
  unfold State.charNext State.charResult
  cases letterOf s.foldLowercase x <;> simp

/-- `CHAR` writes the positions and nothing else (R110). -/
theorem State.charNext_frame (s : State) (x : Char) : s.charNext x = s.withPos (s.charNext x).pos := by
  obtain ⟨c, -, h, -⟩ | ⟨-, h, -⟩ := s.charNext_cases x
  · rw [h]; exact s.stepAll_frame
  · rw [h, State.withPos_self]

/-- `PROCESS` writes the positions and nothing else (R112). -/
theorem State.processLoop_frame (s : State) (t : List Char) :
    (s.processLoop t).2 = s.withPos (s.processLoop t).2.pos := by
  induction t generalizing s with
  | nil => rfl
  | cons x t ih =>
    have h := ih (s.charNext x)
    rw [s.charNext_frame x, State.withPos_withPos, ← s.charNext_frame x] at h
    exact h

/-! ### The fields stepping and text processing leave alone -/

@[simp] theorem State.stepAll_catalog (s : State) : s.stepAll.catalog = s.catalog := by rw [s.stepAll_frame]; rfl
@[simp] theorem State.stepAll_reflector (s : State) : s.stepAll.reflector = s.reflector := by rw [s.stepAll_frame]; rfl
@[simp] theorem State.stepAll_foldLowercase (s : State) : s.stepAll.foldLowercase = s.foldLowercase := by rw [s.stepAll_frame]; rfl
@[simp] theorem State.stepAll_sel (s : State) : s.stepAll.sel = s.sel := by rw [s.stepAll_frame]; rfl
@[simp] theorem State.stepAll_wiring (s : State) : s.stepAll.wiring = s.wiring := by rw [s.stepAll_frame]; rfl
@[simp] theorem State.stepAll_notch (s : State) : s.stepAll.notch = s.notch := by rw [s.stepAll_frame]; rfl
@[simp] theorem State.stepAll_ring (s : State) : s.stepAll.ring = s.ring := by rw [s.stepAll_frame]; rfl
@[simp] theorem State.stepAll_plug (s : State) : s.stepAll.plug = s.plug := by rw [s.stepAll_frame]; rfl
@[simp] theorem State.stepAll_configured (s : State) : s.stepAll.configured = s.configured := by rw [s.stepAll_frame]; rfl
@[simp] theorem State.stepAll_err (s : State) : s.stepAll.err = s.err := by rw [s.stepAll_frame]; rfl
@[simp] theorem State.stepAll_input (s : State) : s.stepAll.input = s.input := by rw [s.stepAll_frame]; rfl
@[simp] theorem State.stepAll_output (s : State) : s.stepAll.output = s.output := by rw [s.stepAll_frame]; rfl
@[simp] theorem State.stepAll_response (s : State) : s.stepAll.response = s.response := by rw [s.stepAll_frame]; rfl
@[simp] theorem State.stepAll_result (s : State) : s.stepAll.result = s.result := by rw [s.stepAll_frame]; rfl
@[simp] theorem State.stepAll_freeCount (s : State) : s.stepAll.freeCount = s.freeCount := by rw [s.stepAll_frame]; rfl
@[simp] theorem State.charNext_catalog (s : State) (x : Char) : (s.charNext x).catalog = s.catalog := by
  rw [s.charNext_frame]; rfl
@[simp] theorem State.charNext_reflector (s : State) (x : Char) : (s.charNext x).reflector = s.reflector := by
  rw [s.charNext_frame]; rfl
@[simp] theorem State.charNext_foldLowercase (s : State) (x : Char) : (s.charNext x).foldLowercase = s.foldLowercase := by
  rw [s.charNext_frame]; rfl
@[simp] theorem State.charNext_sel (s : State) (x : Char) : (s.charNext x).sel = s.sel := by
  rw [s.charNext_frame]; rfl
@[simp] theorem State.charNext_wiring (s : State) (x : Char) : (s.charNext x).wiring = s.wiring := by
  rw [s.charNext_frame]; rfl
@[simp] theorem State.charNext_notch (s : State) (x : Char) : (s.charNext x).notch = s.notch := by
  rw [s.charNext_frame]; rfl
@[simp] theorem State.charNext_ring (s : State) (x : Char) : (s.charNext x).ring = s.ring := by
  rw [s.charNext_frame]; rfl
@[simp] theorem State.charNext_plug (s : State) (x : Char) : (s.charNext x).plug = s.plug := by
  rw [s.charNext_frame]; rfl
@[simp] theorem State.charNext_configured (s : State) (x : Char) : (s.charNext x).configured = s.configured := by
  rw [s.charNext_frame]; rfl
@[simp] theorem State.charNext_err (s : State) (x : Char) : (s.charNext x).err = s.err := by
  rw [s.charNext_frame]; rfl
@[simp] theorem State.charNext_input (s : State) (x : Char) : (s.charNext x).input = s.input := by
  rw [s.charNext_frame]; rfl
@[simp] theorem State.charNext_output (s : State) (x : Char) : (s.charNext x).output = s.output := by
  rw [s.charNext_frame]; rfl
@[simp] theorem State.charNext_response (s : State) (x : Char) : (s.charNext x).response = s.response := by
  rw [s.charNext_frame]; rfl
@[simp] theorem State.charNext_result (s : State) (x : Char) : (s.charNext x).result = s.result := by
  rw [s.charNext_frame]; rfl
@[simp] theorem State.charNext_freeCount (s : State) (x : Char) : (s.charNext x).freeCount = s.freeCount := by
  rw [s.charNext_frame]; rfl
@[simp] theorem State.processLoop_catalog (s : State) (t : List Char) : (s.processLoop t).2.catalog = s.catalog := by
  rw [s.processLoop_frame]; rfl
@[simp] theorem State.processLoop_reflector (s : State) (t : List Char) : (s.processLoop t).2.reflector = s.reflector := by
  rw [s.processLoop_frame]; rfl
@[simp] theorem State.processLoop_foldLowercase (s : State) (t : List Char) : (s.processLoop t).2.foldLowercase = s.foldLowercase := by
  rw [s.processLoop_frame]; rfl
@[simp] theorem State.processLoop_sel (s : State) (t : List Char) : (s.processLoop t).2.sel = s.sel := by
  rw [s.processLoop_frame]; rfl
@[simp] theorem State.processLoop_wiring (s : State) (t : List Char) : (s.processLoop t).2.wiring = s.wiring := by
  rw [s.processLoop_frame]; rfl
@[simp] theorem State.processLoop_notch (s : State) (t : List Char) : (s.processLoop t).2.notch = s.notch := by
  rw [s.processLoop_frame]; rfl
@[simp] theorem State.processLoop_ring (s : State) (t : List Char) : (s.processLoop t).2.ring = s.ring := by
  rw [s.processLoop_frame]; rfl
@[simp] theorem State.processLoop_plug (s : State) (t : List Char) : (s.processLoop t).2.plug = s.plug := by
  rw [s.processLoop_frame]; rfl
@[simp] theorem State.processLoop_configured (s : State) (t : List Char) : (s.processLoop t).2.configured = s.configured := by
  rw [s.processLoop_frame]; rfl
@[simp] theorem State.processLoop_err (s : State) (t : List Char) : (s.processLoop t).2.err = s.err := by
  rw [s.processLoop_frame]; rfl
@[simp] theorem State.processLoop_input (s : State) (t : List Char) : (s.processLoop t).2.input = s.input := by
  rw [s.processLoop_frame]; rfl
@[simp] theorem State.processLoop_output (s : State) (t : List Char) : (s.processLoop t).2.output = s.output := by
  rw [s.processLoop_frame]; rfl
@[simp] theorem State.processLoop_response (s : State) (t : List Char) : (s.processLoop t).2.response = s.response := by
  rw [s.processLoop_frame]; rfl
@[simp] theorem State.processLoop_result (s : State) (t : List Char) : (s.processLoop t).2.result = s.result := by
  rw [s.processLoop_frame]; rfl
@[simp] theorem State.processLoop_freeCount (s : State) (t : List Char) : (s.processLoop t).2.freeCount = s.freeCount := by
  rw [s.processLoop_frame]; rfl

/-- The two outcomes of construction (R85): the whole configuration installed, or the exception taken. -/
theorem State.construct_cases (s : State) (k : Configuration) :
    (validate s.catalog.length k = .noError ∧ s.construct k = s.install k) ∨
      (validate s.catalog.length k ≠ .noError ∧
        s.construct k = s.raiseConfigError (validate s.catalog.length k)) := by
  unfold State.construct
  cases h : validate s.catalog.length k <;> simp

end Sys2Proof.Machine
end

