-- ==== Sys2Proof/Laws/PerInstr.lean ====
section
/-! SUPPORT. The per-instruction family `Spelling`: which words an instruction has (R50, R51, R56, R61, R64). -/

namespace Sys2Proof.Laws.Spelling

open Sys2Proof Machine

/-- What the host cannot issue has no encoding (R50, R61); a format H spelling is an opcode byte with operand bytes and
has the length its own bytes announce (R56, R64); a format T spelling is one character (R51). -/
def Statement (i : Instr) : Prop :=
  (i.hostIssuable = false → encode i = .none) ∧
  (i.hasFormatH = true → ∃ op bs, encode i = .bytes (op :: bs) ∧ commandLength (op :: bs) = 1 + bs.length) ∧
  (i.hasFormatT = true → ∃ x, encode i = .chars [x])

/-- An opcode byte other than `CONFIG`'s announces one byte (R64). -/
theorem one_byte (op : Byte) (h : configRow.hits op = false) : commandLength [op] = 1 + ([] : List Byte).length := by
  simp [commandLength, h]

theorem key_not_config (c : Idx) : configRow.hits (0x20#8 + idxByte c) = false := by revert c; decide

theorem reserved_not_config (op : Byte) (h : isReservedOpcode op = true) : configRow.hits op = false := by
  revert h; revert op; decide

theorem rotorForward (r : Slot) (v : Idx) : Statement (.rotorForward r v) := by
  simp [Statement, encode, Instr.hasFormatH, Instr.hasFormatT]
theorem rotorBackward (r : Slot) (v : Idx) : Statement (.rotorBackward r v) := by
  simp [Statement, encode, Instr.hasFormatH, Instr.hasFormatT]
theorem rotorStep (r : Slot) : Statement (.rotorStep r) := by
  simp [Statement, encode, Instr.hasFormatH, Instr.hasFormatT]
theorem rotorAtNotch (r : Slot) : Statement (.rotorAtNotch r) := by
  simp [Statement, encode, Instr.hasFormatH, Instr.hasFormatT]
theorem plugSwap (v : Idx) : Statement (.plugSwap v) := by
  simp [Statement, encode, Instr.hasFormatH, Instr.hasFormatT]
theorem reflApply (v : Idx) : Statement (.reflApply v) := by
  simp [Statement, encode, Instr.hasFormatH, Instr.hasFormatT]
theorem config (k : Configuration) : Statement (.config k) := by
  refine ⟨by simp [Instr.hostIssuable], fun h => ⟨_, _, rfl, ?_⟩, by simp [Instr.hasFormatT]⟩
  simp only [Instr.hasFormatH, Configuration.fitsFormatH, Bool.and_eq_true, decide_eq_true_eq] at h
  have hn : (BitVec.ofNat 8 k.pairs.length).toNat = k.pairs.length := by
    simp only [BitVec.toNat_ofNat]; omega
  have hc : configRow.hits 0x02#8 = true := by decide
  simp [commandLength, hc, PerSlot.toList]
  omega
theorem stepAll : Statement .stepAll := by
  simp [Statement, encode, Instr.hasFormatH, Instr.hasFormatT]
theorem path (v : Idx) : Statement (.path v) := by
  simp [Statement, encode, Instr.hasFormatH, Instr.hasFormatT]
theorem key (c : Idx) : Statement (.key c) :=
  ⟨by simp [Instr.hostIssuable], fun _ => ⟨_, _, rfl, one_byte _ (key_not_config c)⟩, by simp [Instr.hasFormatT]⟩
theorem keyUpper (c : Idx) : Statement (.keyUpper c) := by
  simp [Statement, encode, Instr.hasFormatH, Instr.hostIssuable]
theorem keyLower (c : Idx) : Statement (.keyLower c) := by
  simp [Statement, encode, Instr.hasFormatH, Instr.hostIssuable]
theorem pass : Statement .pass :=
  ⟨by simp [Instr.hostIssuable], fun _ => ⟨_, _, rfl, one_byte _ (by decide)⟩, by simp [Instr.hasFormatT]⟩
theorem passChar (x : Char) : Statement (.passChar x) := by
  simp [Statement, encode, Instr.hasFormatH, Instr.hostIssuable]
theorem char (x : Char) : Statement (.char x) := by
  simp [Statement, Instr.hasFormatH, Instr.hasFormatT, Instr.hostIssuable]
theorem process (text : List Char) : Statement (.process text) := by
  simp [Statement, Instr.hasFormatH, Instr.hasFormatT, Instr.hostIssuable]
theorem rdpos : Statement .rdpos :=
  ⟨by simp [Instr.hostIssuable], fun _ => ⟨_, _, rfl, one_byte _ (by decide)⟩, by simp [Instr.hasFormatT]⟩
theorem encrypt (k : Configuration) (text : List Char) : Statement (.encrypt k text) := by
  simp [Statement, encode, Instr.hasFormatH, Instr.hasFormatT]
theorem decrypt (k : Configuration) (text : List Char) : Statement (.decrypt k text) := by
  simp [Statement, encode, Instr.hasFormatH, Instr.hasFormatT]
theorem reserved (op : Byte) : Statement (.reserved op) :=
  ⟨by simp [Instr.hostIssuable], fun h => ⟨_, _, rfl, one_byte _ (reserved_not_config op h)⟩,
    by simp [Instr.hasFormatT]⟩

end Sys2Proof.Laws.Spelling
end

