-- ==== Sys2Proof/Tests/Slice0.lean ====
section
/-! SUPPORT. Tests whose expected values come from spec/95_test_vectors.md and the worked examples of the rules, smoke
tests of well-formedness, and a witness for each obligation that has hypotheses. -/

namespace Sys2Proof.Tests

set_option Elab.async false

open Sys2Proof Machine

/-! ### Helpers -/

/-- `K0`: rotors [0,1,2], positions and rings 0, no pairs. -/
def k0 : Configuration := ⟨⟨0, 1, 2⟩, ⟨0, 0, 0⟩, ⟨0, 0, 0⟩, []⟩
/-- `K0` with other starting positions. -/
def kAt (l m r : Int) : Configuration := { k0 with pos0 := ⟨l, m, r⟩ }
/-- The configuration of program P4 and vector CF2. -/
def k4 : Configuration := ⟨⟨2, 0, 1⟩, ⟨7, 4, 19⟩, ⟨5, 25, 11⟩, [(0, 25), (4, 19), (16, 10)]⟩
/-- The configured state a valid configuration gives. -/
def cfg (k : Configuration) : State := State.reset.install k
/-- One rotor type in every slot, at a position and ring setting. -/
def rotor (e p g : Int) : State := cfg ⟨⟨e, e, e⟩, ⟨p, p, p⟩, ⟨g, g, g⟩, []⟩
def stateOf : Answer → Option State
  | .next t => some t
  | .fault _ => none
  | .refused _ => none
def refusalOf : Answer → Option Refusal
  | .next _ => none
  | .fault _ => none
  | .refused r => some r
def resultOf (a : Answer) : Option Result := (stateOf a).map State.result
def posOf (a : Answer) : Option (PerSlot Idx) := (stateOf a).map State.pos
def errOf (k : Configuration) : Option Result := resultOf (exec (.config k) State.reset)

/-! ### Well-formedness and decoding -/

theorem test_wf_keyLower_needs_folding : (Instr.keyLower 7).wellFormed false = false := by decide
theorem test_wf_passChar_refuses_a_letter : (Instr.passChar 'A').wellFormed true = false := by decide
theorem test_wf_reserved_refuses_pass : (Instr.reserved 0x00).wellFormed true = false := by decide
theorem test_formatH_refuses_a_negative_position :
    (Instr.config (kAt 0 0 (-1))).hasFormatH = false := by decide
theorem test_formatH_refuses_a_wide_identifier :
    (Instr.config { k0 with rot := ⟨256, 0, 0⟩ }).hasFormatH = false := by decide
theorem test_formatH_refuses_a_wide_ring :
    (Instr.config { k0 with ring := ⟨0, 300, 0⟩ }).hasFormatH = false := by decide
theorem test_formatH_refuses_a_wide_pair :
    (Instr.config { k0 with pairs := [(0, 256)] }).hasFormatH = false := by decide
theorem test_formatH_refuses_256_pairs :
    (Instr.config { k0 with pairs := List.replicate 256 (0, 0) }).hasFormatH = false := by decide +kernel
theorem test_host_cannot_issue_stepall : Instr.stepAll.hostIssuable = false := by decide

-- R56 and program P1: one word of each opcode row, from the bit columns of the table.
theorem test_decode_pass : decode [0b00000000#8] = .ok (.pass, []) := by decide
theorem test_decode_rdpos : decode [0b00000001#8] = .ok (.rdpos, []) := by decide
theorem test_decode_key_h : decode [0b00100111#8] = .ok (.key 7, []) := by decide
theorem test_decode_config_cf1 :
    decode [0x02, 0x00, 0x01, 0x02, 0x00, 0x00, 0x00, 0x00, 0x00, 0x00, 0x00] = .ok (.config k0, []) := by decide
theorem test_decode_config_cf2 :
    decode [0x02, 0x02, 0x00, 0x01, 0x07, 0x04, 0x13, 0x05, 0x19, 0x0B, 0x03, 0x00, 0x19, 0x04, 0x13, 0x10, 0x0A] =
      .ok (.config k4, []) := by decide
theorem test_decode_reserved_edges :
    [0x03#8, 0x1F#8, 0x3A#8, 0x3F#8, 0x40#8, 0xFF#8].map (fun b => decode [b]) =
      [.ok (.reserved 0x03, []), .ok (.reserved 0x1F, []), .ok (.reserved 0x3A, []), .ok (.reserved 0x3F, []),
        .ok (.reserved 0x40, []), .ok (.reserved 0xFF, [])] := by decide
theorem test_decode_truncated_config : decode [0x02, 0x00, 0x01] = .error .truncatedConfig := by decide
theorem test_decode_nothing : decode [] = .error .noCommand := by decide
theorem test_encode_key_z : encode (.key 25) = .bytes [0x39#8] := by decide
-- R51 to R54 at the edges of the letter ranges, and the folding trap U+212A.
theorem test_decodeChar_edges :
    ['A', 'Z', 'a', 'z', '@', '[', '`', Char.ofNat 0x7B, Char.ofNat 0x212A].map (decodeChar true) =
      [.keyUpper 0, .keyUpper 25, .keyLower 0, .keyLower 25, .passChar '@', .passChar '[', .passChar '`',
        .passChar (Char.ofNat 0x7B), .passChar (Char.ofNat 0x212A)] := by decide
theorem test_tableWord_key : decodeTableWord 8 0x27 = some (.key 7) := by decide
theorem test_tableWord_config : decodeTableWord 8 0x02 =
    some (.config ⟨⟨0, 0, 0⟩, ⟨0, 0, 0⟩, ⟨0, 0, 0⟩, []⟩) := by decide
theorem test_tableWord_pass : decodeTableWord 8 0x00 = some .pass := by decide
theorem test_tableWord_rdpos : decodeTableWord 8 0x01 = some .rdpos := by decide

/-! ### Rotors, plugboard, reflector -/

-- Vectors F1 to F17 (section 2).
theorem test_forward_vectors :
    [(0, 0, 0, 0), (0, 1, 0, 0), (0, 0, 1, 0), (0, 25, 0, 25), (0, 25, 0, 0), (0, 0, 25, 0), (0, 0, 25, 25),
      (0, 0, 0, 25), (0, 13, 13, 25), (1, 0, 0, 4), (1, 5, 5, 4), (1, 7, 2, 4), (1, 12, 7, 4), (1, 5, 0, 4),
      (2, 1, 3, 7), (2, 25, 0, 0), (2, 0, 25, 25)].map
        (fun q : Int × Int × Int × Idx => (rotor q.1 q.2.1 q.2.2.1).forward .M q.2.2.2) =
      [4, 9, 10, 3, 10, 9, 3, 9, 9, 18, 18, 22, 22, 22, 13, 15, 0] := by decide +kernel
-- Vectors B1 to B9 (section 2).
theorem test_backward_vectors :
    [(0, 0, 0, 0), (0, 1, 0, 0), (0, 1, 0, 9), (0, 0, 1, 0), (0, 25, 0, 25), (0, 0, 0, 25), (1, 7, 2, 4),
      (2, 1, 3, 7), (2, 0, 25, 25)].map
        (fun q : Int × Int × Int × Idx => (rotor q.1 q.2.1 q.2.2.1).backward .L q.2.2.2) =
      [20, 21, 0, 10, 15, 9, 22, 4, 18] := by decide +kernel
-- SN2: 25 steps to 0, in slot R only.
theorem test_rotorStep_wraps :
    posOf (exec (.rotorStep .R) (cfg (kAt 25 25 25))) = some ⟨25, 25, 0⟩ := by decide +kernel
-- SN6, SN7: rotor 1 has its notch at 4; the ring setting does not enter.
theorem test_atNotch :
    [resultOf (exec (.rotorAtNotch .M) (rotor 1 4 4)), resultOf (exec (.rotorAtNotch .M) (rotor 1 5 1))] =
      [some (.flag true), some (.flag false)] := by decide +kernel
-- PR3.
theorem test_plugSwap_pr3 :
    [0, 25, 4, 19, 16, 10, 1].map (cfg k4).plugSwap = [25, 0, 19, 4, 10, 16, 1] := by decide +kernel
-- PR6 through exec, one entry.
theorem test_reflApply : resultOf (exec (.reflApply 23) (cfg k0)) = some (.index 9) := by decide +kernel
theorem test_plugSwap_exec : resultOf (exec (.plugSwap 16) (cfg k4)) = some (.index 10) := by decide +kernel

/-! ### CONFIG (section 4) -/

theorem test_config_cf2 :
    (stateOf (exec (.config k4) State.reset)).map (fun t => (t.notch, t.pos, t.ring, t.configured, t.response)) =
      some (⟨21, 16, 4⟩, ⟨7, 4, 19⟩, ⟨5, 25, 11⟩, true, [0x00#8]) := by decide +kernel
-- CF5 to CF16: the cause each reports.
theorem test_config_causes :
    [kAt 0 0 26, { k0 with ring := ⟨0, 26, 0⟩ }, kAt 0 0 (-1), { k0 with pairs := [(0, 1), (1, 2)] },
      { k0 with pairs := [(0, 1), (1, 0)] }, { k0 with pairs := [(0, 0)] }, { k0 with rot := ⟨0, 1, 3⟩ },
      { k0 with pairs := [(0, 26)] }, { k0 with pairs := [Configuration.pairOfChars 'a' 'b'] },
      { kAt 0 0 26 with rot := ⟨0, 1, 3⟩, pairs := [(0, 0)] }, { k0 with rot := ⟨0, 1, 3⟩, pairs := [(0, 0)] },
      { k0 with rot := ⟨0, 1, 3⟩, pairs := [(0, 26)] }, kAt 25 25 25].map (validate 3) =
      [.range, .range, .range, .plug, .plug, .plug, .rotor, .format, .format, .range, .plug, .rotor, .noError] := by
  decide +kernel
theorem test_config_failure_answers_its_cause : errOf (kAt 0 0 26) = some (.status .range) := by decide +kernel

/-! ### Stepping, path and keypress (sections 5 and 6) -/

-- S1 to S13.
theorem test_stepAll_vectors :
    [(0, 0, 0), (0, 0, 21), (0, 4, 0), (0, 4, 21), (0, 3, 21), (0, 4, 20), (0, 5, 21), (0, 0, 25), (25, 4, 25),
      (0, 25, 21), (25, 25, 25), (16, 0, 0), (16, 4, 21)].map
        (fun q : Int × Int × Int => (cfg (kAt q.1 q.2.1 q.2.2)).stepAll.pos) =
      [⟨0, 0, 1⟩, ⟨0, 1, 22⟩, ⟨1, 5, 1⟩, ⟨1, 5, 22⟩, ⟨0, 4, 22⟩, ⟨1, 5, 21⟩, ⟨0, 6, 22⟩, ⟨0, 0, 0⟩, ⟨0, 5, 0⟩,
        ⟨0, 0, 22⟩, ⟨25, 25, 0⟩, ⟨16, 0, 1⟩, ⟨17, 5, 22⟩] := by decide +kernel
-- S14: notches follow the slot's rotor.
theorem test_stepAll_other_order :
    posOf (exec .stepAll (cfg { kAt 0 0 4 with rot := ⟨2, 0, 1⟩ })) = some ⟨0, 1, 5⟩ := by decide +kernel
-- R100's worked example: at [0,0,1], H gives I.
theorem test_path_worked_example : resultOf (exec (.path 7) (cfg (kAt 0 0 1))) = some (.index 8) := by decide +kernel
-- K3: every letter at [0,0,1].
theorem test_path_k3 :
    allIdx.map (fun v => letter ((cfg (kAt 0 0 1)).path v)) =
      ['B', 'A', 'Q', 'M', 'F', 'E', 'X', 'I', 'H', 'S', 'W', 'P', 'D', 'Y', 'T', 'L', 'C', 'V', 'J', 'O', 'Z', 'R',
        'K', 'G', 'N', 'U'] := by decide +kernel
-- P1: KEY H answers 08, and the rotors stand at [0,0,1].
theorem test_key_h :
    (stateOf (exec (.key 7) (cfg k0))).map (fun t => (t.response, t.pos)) = some ([0x08#8], ⟨0, 0, 1⟩) := by
  decide +kernel
theorem test_keyUpper_w : resultOf (exec (.keyUpper 0) (cfg (kAt 25 4 25))) = some (.character 'S') := by
  decide +kernel
theorem test_keyLower_folds : resultOf (exec (.keyLower 7) (cfg k0)) = some (.character 'I') := by decide +kernel
-- T6: with folding off a lowercase letter passes.
theorem test_keyLower_without_folding :
    resultOf (exec (.keyLower 4) { cfg k0 with foldLowercase := false }) = some (.character 'e') := by decide +kernel

/-! ### Text (section 7) and the pseudo-operations -/

theorem test_pass_does_nothing : stateOf (exec .pass (cfg k0)) = some (cfg k0) := by decide +kernel
theorem test_passChar : resultOf (exec (.passChar '5') (cfg k0)) = some (.character '5') := by decide +kernel
theorem test_char_steps : posOf (exec (.char 'h') (cfg k0)) = some ⟨0, 0, 1⟩ := by decide +kernel
theorem test_char_passes : posOf (exec (.char ',') (cfg k0)) = some ⟨0, 0, 0⟩ := by decide +kernel
-- T3 shortened: "Hello, W" gives "ILBDA, A".
theorem test_process_mixed :
    resultOf (exec (.process ['H', 'e', 'l', 'l', 'o', ',', ' ', 'W']) (cfg k0)) =
      some (.text ['I', 'L', 'B', 'D', 'A', ',', ' ', 'A']) := by decide +kernel
-- X3: ring settings [1,2,3].
theorem test_process_rings :
    resultOf (exec (.process ['H', 'E', 'L', 'L', 'O']) (cfg { k0 with ring := ⟨1, 2, 3⟩ })) =
      some (.text ['A', 'X', 'Q', 'C', 'R']) := by decide +kernel
theorem test_rdpos :
    (stateOf (exec .rdpos (cfg k4))).map (fun t => (t.response, t.result)) =
      some ([0x07#8, 0x04#8, 0x13#8], .positions ⟨7, 4, 19⟩) := by decide +kernel
-- P4.
theorem test_encrypt_p4 :
    resultOf (exec (.encrypt k4 ['A', 'T', 'T', 'A', 'C', 'K', 'A', 'T', 'D', 'A', 'W', 'N']) State.reset) =
      some (.text ['J', 'G', 'O', 'P', 'D', 'Q', 'O', 'E', 'S', 'N', 'B', 'U']) := by decide +kernel
theorem test_decrypt_p4 :
    resultOf (exec (.decrypt k4 ['J', 'G', 'O', 'P', 'D', 'Q', 'O', 'E', 'S', 'N', 'B', 'U']) State.reset) =
      some (.text ['A', 'T', 'T', 'A', 'C', 'K', 'A', 'T', 'D', 'A', 'W', 'N']) := by decide +kernel
theorem test_encrypt_bad_configuration :
    resultOf (exec (.encrypt (kAt 0 0 26) ['A']) State.reset) = some (.status .range) := by decide +kernel
theorem test_reserved_is_refused : refusalOf (exec (.reserved 0x3A) (cfg k0)) = some .reservedOpcode := by decide
-- P6: D00's literals under the other reading: VNACA, and FGPQE with rings [1,2,3].
theorem test_replay_literals :
    [((cfg k0).altKeys [7, 4, 11, 11, 14]).map letter,
      ((cfg { k0 with ring := ⟨1, 2, 3⟩ }).altKeys [7, 4, 11, 11, 14]).map letter] =
      [['V', 'N', 'A', 'C', 'A'], ['F', 'G', 'P', 'Q', 'E']] := by decide +kernel

/-! ### The step -/

theorem test_step_idle_at_reset : stateOf (step State.reset) = some State.reset := by decide
theorem test_step_config_first :
    (stateOf (step (State.reset.withFetchWord 8 0x02))).map (fun t => (t.configured, t.input)) =
      some (true, [.bytes []]) := by decide +kernel
theorem test_step_key_unconfigured : refusalOf (step (State.reset.withFetchWord 8 0x27)) = some .unconfigured := by
  decide +kernel
theorem test_step_key_configured :
    (stateOf (step ((cfg k0).withFetchWord 8 0x27))).map State.result = some (.index 8) := by decide +kernel

-- R53, D6: with folding off a lowercase letter the host issues passes unchanged, without stepping.
theorem test_step_lowercase_command_passes :
    (stateOf (step (({ cfg k0 with foldLowercase := false } : State).withInput [.command (.keyLower 4)]))).map
        (fun t => (t.result, t.pos)) = some (.character 'e', ⟨0, 0, 0⟩) := by decide +kernel
-- R55: the result of `PASS x` is `x` itself.
theorem test_step_pass_command_copies :
    (stateOf (step ((cfg k0).withInput [.command (.passChar 'A')]))).map (fun t => (t.result, t.pos)) =
      some (.character 'A', ⟨0, 0, 0⟩) := by decide +kernel

/-! ### Witnesses: concrete states and operands that meet the hypotheses of the obligations -/

theorem usable_k0 : (cfg k0).Usable := by decide +kernel
theorem params_reset : State.reset.parametersOk = true := by decide +kernel
theorem inv_k4 : (cfg k4).Inv :=
  ⟨by decide +kernel, fun _ => ⟨rfl, by decide +kernel, fun r => by cases r <;> decide +kernel⟩⟩
theorem inv_k0 : (cfg k0).Inv :=
  ⟨by decide +kernel, fun _ => ⟨rfl, by decide +kernel, fun r => by cases r <;> decide +kernel⟩⟩
theorem valid_k4 : validate State.reset.catalog.length k4 = .noError := by decide +kernel
theorem invalid_k : validate State.reset.catalog.length (kAt 0 0 26) ≠ .noError := by decide +kernel

theorem witness_HardwareResetUnconfigures : ((cfg k0).withInput [.hardwareReset]).input = .hardwareReset :: [] := rfl
theorem witness_StepKeepsTheInvariant :
    State.reset.Inv ∧ step State.reset = .next State.reset :=
  ⟨⟨params_reset, fun h => absurd h (by decide)⟩, rfl⟩
theorem witness_StepKeepsTheInvariant_running :
    ((cfg k0).withInput [.text ['H']]).Inv ∧
      (stateOf (step ((cfg k0).withInput [.text ['H']]))).isSome = true :=
  ⟨inv_k0, by decide +kernel⟩
theorem witness_InvariantOfAConfiguredInstance : (cfg k4).Inv ∧ (cfg k4).configured = true := ⟨inv_k4, rfl⟩
theorem witness_ConstantsNeverChange : step State.reset = .next State.reset := rfl
theorem witness_OnlyPositionsMove :
    (stateOf (exec (.key 0) (cfg k0))).isSome = true ∧ (∀ k, Instr.key 0 ≠ .config k) ∧
      (stateOf (exec .rdpos (cfg k0))).isSome = true ∧ movesRotors .rdpos = false :=
  ⟨by decide +kernel, by simp, by decide +kernel, rfl⟩
theorem witness_IllFormedTables :
    ({ State.reset with reflector := identityTable } : State).parametersOk = false ∧ ∀ op, Instr.pass ≠ .reserved op :=
  ⟨by decide +kernel, by simp⟩
theorem witness_InstancesAreIndependent :
    ∃ m₁ m₂, Instances.execAt 0 (.encrypt k0 []) [State.reset, State.reset] = .next m₁ ∧
      Instances.execAt 1 (.decrypt k0 []) m₁ = .next m₂ := by
  have hp := params_reset
  exact ⟨_, _, by simp [Instances.execAt, exec, execEncrypt, hp]; rfl,
    by simp [Instances.execAt, exec, execDecrypt, hp]; rfl⟩
theorem witness_DecodeInvertsEncodeFormatH :
    (Instr.config k4).hasFormatH = true ∧ (Instr.key 25).hasFormatH = true ∧ (Instr.reserved 0xFF).hasFormatH = true := by
  decide
theorem witness_EncodeInvertsDecodeFormatH : decode [0x39#8, 0x00#8] = .ok (.key 25, [0x00#8]) := by decide
theorem witness_EveryCharacterIsOneOperation :
    'A'.toNat = 0x41 + (0 : Idx).val ∧ 'Z'.toNat = 0x41 + (25 : Idx).val ∧ 'a'.toNat = 0x61 + (0 : Idx).val ∧
      'z'.toNat = 0x61 + (25 : Idx).val ∧ ¬ (0x41 ≤ '@'.toNat ∧ '@'.toNat ≤ 0x5A) ∧
      ¬ (0x61 ≤ '`'.toNat ∧ '`'.toNat ≤ 0x7A) ∧ (Instr.keyLower 0).hasFormatT = true ∧
      (Instr.keyLower 0).wellFormed true = true ∧ (Instr.passChar 'a').wellFormed false = true := by decide
theorem witness_CommandLength_complete : decode [0x00#8] = .ok (.pass, []) := by decide
theorem witness_CommandLength_short :
    [0x02#8, 0x00#8] ≠ [] ∧ [0x02#8, 0x00#8].length < commandLength [0x02#8, 0x00#8] := by decide
theorem witness_OpcodeRows_edges :
    [0x02#8, 0x03#8, 0x1F#8, 0x20#8, 0x39#8, 0x3A#8, 0xFF#8].map isReservedOpcode =
      [false, true, true, false, false, true, true] := by decide
theorem witness_ReservedWords :
    isReservedOpcode 0x1F = true ∧ isReservedOpcode 0x3A = true ∧
      ((cfg k0).withInput [.bytes [0x3A#8]]).input = .bytes (0x3A#8 :: []) :: [] ∧
      ([0x00#8] : List Byte).length < 10 + 2 * (([0x00#8] : List Byte).getD 9 0).toNat ∧
      State.reset.parametersOk = true ∧ State.reset.configured = false :=
  ⟨by decide, by decide, rfl, by decide, params_reset, rfl⟩
theorem witness_StepRunsTheDecodedCommand :
    ((cfg k0).withInput [.bytes [0x27#8]]).input = .bytes [0x27#8] :: [] ∧ decode [0x27#8] = .ok (.key 7, []) ∧
      ((cfg k0).withInput [.text ['H']]).input = .text ('H' :: []) :: [] ∧
      ((cfg k0).withInput [.command .rdpos]).input = .command .rdpos :: [] ∧ Instr.rdpos.hostIssuable = true ∧
      State.reset.input = [] := by decide +kernel
theorem witness_InternalOperations :
    ((cfg k0).withInput [.command .stepAll]).input = .command .stepAll :: [] ∧ Instr.stepAll.hostIssuable = false :=
  ⟨rfl, rfl⟩
/-- The one hypothesis of the statements about a usable instance: RotorForwardValue, RotorBackwardValue,
RotorStepAdvancesOnePosition, NotchComparesPositionOnly, PlugSwapExchangesConfiguredPairs (first part),
ReflectorIsABareLookup, StepAllSimultaneousForm, PathIsTheNineStages, KeyStepsThenEnciphers, UppercaseLetterIsKeyed,
PassStepsNothing, ProcessTakesCharactersInOrder, ProcessConcatenates, PositionsAreReadWithoutEffect. -/
theorem witness_UsableInstance : (cfg k0).Usable := usable_k0
theorem witness_RotorStep_otherSlot : Slot.L ≠ Slot.R := by decide
theorem witness_RotorMapsAreMutuallyInverse : Function.Bijective (entry ((cfg k0).wiring.get .M)) := by
  rw [← Finite.injective_iff_bijective]; decide +kernel
theorem witness_OnlyThePositionRingDifferenceMatters :
    (rotor 1 7 2).wiring.get .M = (rotor 1 12 7).wiring.get .M ∧
      mod26 ((((rotor 1 7 2).pos.get .M).val : Int) - ((rotor 1 7 2).ring.get .M).val) =
        mod26 ((((rotor 1 12 7).pos.get .M).val : Int) - ((rotor 1 12 7).ring.get .M).val) := by decide +kernel
/-- Also of ConstructionInstallsItsOperands and, with identifier 2, of SameRotorInEverySlotIsLegal. -/
theorem witness_ValidConstruction :
    State.reset.parametersOk = true ∧ validate State.reset.catalog.length k4 = .noError ∧
      (((0 : Idx).val : Int), ((25 : Idx).val : Int)) ∈ k4.pairs ∧
      (∀ p ∈ k4.pairs, p.1 ≠ ((1 : Idx).val : Int) ∧ p.2 ≠ ((1 : Idx).val : Int)) ∧
      2 < State.reset.catalog.length :=
  ⟨params_reset, valid_k4, by decide, by decide, by decide⟩
/-- Of PlugboardIsAnInvolution and PlugTableIgnoresOrder, with 13 pairs (vector PR4) as the boundary. -/
theorem witness_PlugTable :
    validate 3 { k0 with pairs := [(0, 1), (2, 3), (4, 5), (6, 7), (8, 9), (10, 11), (12, 13), (14, 15), (16, 17),
      (18, 19), (20, 21), (22, 23), (24, 25)] } = .noError ∧
      [(4, 19), (16, 10), (0, 25)].Perm k4.pairs ∧ validate 3 k4 = .noError := by
  decide +kernel
theorem witness_ReflectorHasNoFixedPoint : State.reset.parametersOk = true := params_reset
theorem witness_FailedConstruction :
    State.reset.parametersOk = true ∧ validate State.reset.catalog.length (kAt 0 0 26) ≠ .noError :=
  ⟨params_reset, invalid_k⟩
theorem witness_ReconfigurationForgetsThePast :
    State.reset.parametersOk = true ∧ State.reset.SameHardware (cfg k4) := ⟨params_reset, rfl, rfl, rfl⟩
theorem witness_RetryFailsAlike :
    State.reset.parametersOk = true ∧ validate State.reset.catalog.length (kAt 0 0 26) ≠ .noError ∧
      (∃ t, exec (.config (kAt 0 0 26)) State.reset = .next t) ∧ validate State.reset.catalog.length k4 = .noError :=
  ⟨params_reset, invalid_k, ⟨_, by simp only [exec, execConfig, params_reset, if_true]; rfl⟩, valid_k4⟩
theorem witness_UnconfiguredCommands : State.reset.parametersOk = true ∧ State.reset.configured = false :=
  ⟨params_reset, rfl⟩
theorem witness_EveryOperationIsTotal :
    (cfg k4).Inv ∧ (cfg k4).configured = true ∧ (∀ op, Instr.process [] ≠ .reserved op) ∧
      ∀ k, Instr.process [] ≠ .config k := ⟨inv_k4, rfl, by simp, by simp⟩
theorem witness_NothingReadsUnconfiguredRegisters :
    State.reset.SameMachine { State.reset with pos := ⟨1, 2, 3⟩, output := ['A'] } ∧
      (cfg k0).SameMachine { cfg k0 with output := ['A'] } :=
  ⟨⟨⟨rfl, rfl, rfl⟩, rfl, rfl, fun h => absurd h (by decide)⟩, ⟨rfl, rfl, rfl⟩, rfl, rfl, fun _ => rfl⟩
theorem witness_MiddleRotorDoubleSteps :
    (cfg (kAt 0 3 21)).Usable ∧ (cfg (kAt 0 3 21)).pos.M = mod26 (((cfg (kAt 0 3 21)).notch.M.val : Int) - 1) ∧
      (cfg (kAt 0 3 21)).pos.R = (cfg (kAt 0 3 21)).notch.R := by decide +kernel
theorem witness_SteppingReadsPositionsAndNotchesOnly :
    (cfg k0).pos = (cfg { k0 with ring := ⟨9, 9, 9⟩ }).pos ∧
      (cfg k0).notch = (cfg { k0 with ring := ⟨9, 9, 9⟩ }).notch ∧ (cfg (kAt 0 4 21)).atNotch .M = true := by
  decide +kernel
/-- Of PathIsReciprocal, NoLetterEnciphersToItself, PathIsATotalBijection and PassThroughInvariance. -/
theorem witness_ConfiguredInvariant : (cfg k4).Inv ∧ (cfg k4).configured = true := ⟨inv_k4, rfl⟩
theorem witness_PassThrough_clauses :
    ([',', 'A'] : List Char)[0]? = some ',' ∧ letterOf (cfg k4).foldLowercase ',' = none ∧
      ([',', 'A'] : List Char)[1]? = some 'A' ∧ letterOf (cfg k4).foldLowercase 'A' = some 0 := by decide +kernel
theorem witness_LowercaseLetter :
    (cfg k0).Usable ∧ (cfg k0).foldLowercase = true ∧ ({ cfg k0 with foldLowercase := false } : State).Usable :=
  ⟨usable_k0, rfl, usable_k0⟩
theorem witness_CharTakesItsBranch :
    (cfg k0).Usable ∧ 'Z'.toNat = 0x41 + (25 : Idx).val ∧ 'a'.toNat = 0x61 + (0 : Idx).val ∧
      ¬ (0x41 ≤ '['.toNat ∧ '['.toNat ≤ 0x5A) ∧ ¬ (0x61 ≤ '['.toNat ∧ '['.toNat ≤ 0x7A) :=
  ⟨usable_k0, by decide, by decide, by decide, by decide⟩
theorem witness_TextWithoutLetters :
    (cfg k0).Usable ∧ ∀ x ∈ [' ', '1', '2'], letterOf (cfg k0).foldLowercase x = none :=
  ⟨usable_k0, by
    intro x hx
    simp only [List.mem_cons, List.not_mem_nil, or_false] at hx
    rcases hx with rfl | rfl | rfl <;> rfl⟩
theorem witness_CharacterStepsRefineProcess :
    ((cfg k0).withInput [.text ['H', ',']]).Usable ∧
      ((cfg k0).withInput [.text ['H', ',']]).input = .text ['H', ','] :: [] := ⟨usable_k0, rfl⟩
theorem witness_RoundTrip :
    State.reset.parametersOk = true ∧ State.reset.SameHardware (cfg k0) ∧
      validate State.reset.catalog.length k4 = .noError := ⟨params_reset, ⟨rfl, rfl, rfl⟩, valid_k4⟩
theorem witness_Encrypt :
    State.reset.parametersOk = true ∧ State.reset.SameHardware State.reset ∧
      (∃ t, exec (.config k4) State.reset = .next t ∧ t.configured = true) ∧
      ∃ t, exec (.config (kAt 0 0 26)) State.reset = .next t ∧ t.configured = false := by
  refine ⟨params_reset, ⟨rfl, rfl, rfl⟩, ⟨_, by simp only [exec, execConfig, params_reset, if_true]; rfl, ?_⟩,
    _, by simp only [exec, execConfig, params_reset, if_true]; rfl, ?_⟩ <;> decide +kernel

end Sys2Proof.Tests
end

section
/-! SUPPORT. Proofs of the statements of 00_scope.md: the Euclidean remainder (R2) and the alphabet (R1). -/

namespace Sys2Proof.Proofs

open Sys2Proof Sys2Proof.Machine

/-- The existence half of R2: an integer differs from its reduction by a multiple of 26. -/
theorem dvd_sub_mod26 (a : Int) : (26 : Int) ∣ a - (mod26 a).val := by
  rw [mod26_val]
  exact Int.dvd_self_sub_emod

/-- The uniqueness half of R2: two indices congruent to `a` lie less than 26 apart, so they are equal. -/
theorem eq_mod26_of_dvd_sub {a : Int} {r : Idx} (h : (26 : Int) ∣ a - r.val) : r = mod26 a := by
  have hval := mod26_val a
  apply Fin.ext
  omega

/-- A character is determined by its code point, so an index names exactly one uppercase letter (R1). -/
theorem eq_letter_of_upperIndex {x : Char} {c : Idx} (h : upperIndex x = some c) : x = letter c := by
  have hx : x.toNat = 0x41 + c.val := indexFrom_eq_some.mp h
  exact Char.toNat_inj.mp (hx.trans (letter_toNat c).symm)

/-- Settles O1: divisibility and uniqueness for every integer, and the four written-out values of R2. -/
theorem reductionIsTheEuclideanRemainder : Obligations.ReductionIsTheEuclideanRemainder :=
  ⟨fun a => ⟨dvd_sub_mod26 a, fun _ => eq_mod26_of_dvd_sub⟩, by decide⟩

/-- Settles O2: the alphabet in order, and both directions of the inverse. -/
theorem lettersAndIndicesAreInverse : Obligations.LettersAndIndicesAreInverse :=
  ⟨by decide, upperIndex_letter, fun _ _ => eq_letter_of_upperIndex⟩

end Sys2Proof.Proofs
end

section
/-! SUPPORT. Proofs of the statements of 30_encoding.md about characters: the format T decoder (R51 to R54) and the
lowercase letter (R53). -/

namespace Sys2Proof.Proofs

open Sys2Proof Sys2Proof.Machine

/-! ### The class of a character -/

theorem indexFrom_eq_none {base n : Nat} : indexFrom base n = none ↔ ¬ (base ≤ n ∧ n < base + 26) := by
  simp [indexFrom]

/-- A lowercase letter is determined by its index (R53). -/
theorem eq_lowerLetter_of_lowerIndex {x : Char} {c : Idx} (h : lowerIndex x = some c) : x = lowerLetter c := by
  have hx : x.toNat = 0x61 + c.val := indexFrom_eq_some.mp h
  exact Char.toNat_inj.mp (hx.trans (lowerLetter_toNat c).symm)

/-- The two letter ranges of R51 do not meet. -/
theorem upperIndex_eq_none_of_lowerIndex {x : Char} {c : Idx} (h : lowerIndex x = some c) : upperIndex x = none := by
  have hx : x.toNat = 0x61 + c.val := indexFrom_eq_some.mp h
  exact indexFrom_eq_none.mpr (by omega)

/-- The class "other" of R54: no uppercase letter, and with folding on no lowercase letter either. -/
theorem letterOf_eq_none {fold : Bool} {x : Char} :
    letterOf fold x = none ↔ upperIndex x = none ∧ (fold = true → lowerIndex x = none) := by
  unfold letterOf
  cases upperIndex x <;> simp

/-! ### The format T decoder, one equation per class -/

theorem decodeChar_of_upperIndex (fold : Bool) {x : Char} {c : Idx} (h : upperIndex x = some c) :
    decodeChar fold x = .keyUpper c := by
  simp [decodeChar, h]

theorem decodeChar_of_lowerIndex (fold : Bool) {x : Char} {c : Idx} (h : lowerIndex x = some c) :
    decodeChar fold x = if fold then .keyLower c else .passChar x := by
  have hu := upperIndex_eq_none_of_lowerIndex h
  cases fold <;> simp [decodeChar, hu, h]

theorem decodeChar_of_letterOf_eq_none {fold : Bool} {x : Char} (h : letterOf fold x = none) :
    decodeChar fold x = .passChar x := by
  obtain ⟨hu, hl⟩ := letterOf_eq_none.mp h
  cases fold with
  | false => simp [decodeChar, hu]
  | true => simp [decodeChar, hu, hl rfl]

/-- What a character can be: an uppercase letter, a folded lowercase letter, or of class "other" (R51). -/
theorem char_class (fold : Bool) (x : Char) :
    (∃ c, upperIndex x = some c) ∨ (fold = true ∧ ∃ c, lowerIndex x = some c) ∨ letterOf fold x = none := by
  cases hu : upperIndex x with
  | some c => exact .inl ⟨c, rfl⟩
  | none =>
    cases hl : lowerIndex x with
    | none => exact .inr (.inr (letterOf_eq_none.mpr ⟨hu, fun _ => hl⟩))
    | some c =>
      cases fold with
      | true => exact .inr (.inl ⟨rfl, c, rfl⟩)
      | false => exact .inr (.inr (letterOf_eq_none.mpr ⟨hu, nofun⟩))

/-- The encoder gives the decoded character back. -/
theorem encode_decodeChar (fold : Bool) (x : Char) : encode (decodeChar fold x) = .chars [x] := by
  obtain ⟨c, hu⟩ | ⟨rfl, c, hl⟩ | ho := char_class fold x
  · rw [decodeChar_of_upperIndex fold hu, eq_letter_of_upperIndex hu, encode]
  · rw [decodeChar_of_lowerIndex true hl, eq_lowerLetter_of_lowerIndex hl]; rfl
  · rw [decodeChar_of_letterOf_eq_none ho, encode]

theorem decodeChar_wellFormed (fold : Bool) (x : Char) : (decodeChar fold x).wellFormed fold = true := by
  obtain ⟨c, hu⟩ | ⟨rfl, c, hl⟩ | ho := char_class fold x
  · rw [decodeChar_of_upperIndex fold hu, Instr.wellFormed]
  · rw [decodeChar_of_lowerIndex true hl]; rfl
  · simp [decodeChar_of_letterOf_eq_none ho, Instr.wellFormed, ho]

/-- The three rows spelled as one character (R51). -/
theorem hasFormatT_cases {i : Instr} (h : i.hasFormatT = true) :
    (∃ c, i = .keyUpper c) ∨ (∃ c, i = .keyLower c) ∨ ∃ x, i = .passChar x := by
  cases i <;> simp_all [Instr.hasFormatT]

/-- Decoding inverts encoding on the well-formed format T instructions. -/
theorem decodeChar_encode {fold : Bool} {i : Instr} (hT : i.hasFormatT = true) (hwf : i.wellFormed fold = true) :
    ∃ x, encode i = .chars [x] ∧ decodeChar fold x = i := by
  obtain ⟨c, rfl⟩ | ⟨c, rfl⟩ | ⟨x, rfl⟩ := hasFormatT_cases hT
  · exact ⟨letter c, rfl, decodeChar_of_upperIndex fold (upperIndex_letter c)⟩
  · obtain rfl : fold = true := hwf
    exact ⟨lowerLetter c, rfl, decodeChar_of_lowerIndex true (lowerIndex_lowerLetter c)⟩
  · exact ⟨x, rfl, decodeChar_of_letterOf_eq_none (eq_of_beq hwf)⟩

/-- Settles O14: the decoder's equation for each of the three ranges, and the round trip both ways. -/
theorem everyCharacterIsOneOperation : Obligations.EveryCharacterIsOneOperation := by
  refine ⟨fun fold x => ⟨fun c hx => ?upper, fun c hx => ?lower, fun hu hl => ?other,
    encode_decodeChar fold x, decodeChar_wellFormed fold x⟩, fun _ _ => decodeChar_encode⟩
  case upper => exact decodeChar_of_upperIndex fold (indexFrom_eq_some.mpr hx)
  case lower => exact decodeChar_of_lowerIndex fold (indexFrom_eq_some.mpr hx)
  case other =>
    have hupper : upperIndex x = none := indexFrom_eq_none.mpr (by omega)
    have hlower : lowerIndex x = none := indexFrom_eq_none.mpr (by omega)
    exact decodeChar_of_letterOf_eq_none (letterOf_eq_none.mpr ⟨hupper, fun _ => hlower⟩)

/-! ### The lowercase letter -/

theorem exec_keyUpper_usable {s : State} (h : s.Usable) (c : Idx) :
    exec (.keyUpper c) s =
      .next ((s.stepAll.emitText [letter (s.keyed c)]).withResult (.character (letter (s.keyed c)))) :=
  State.onConfigured_usable h _

/-- With folding on the two letter rows have one meaning, in every state (R53). -/
theorem exec_keyLower_of_fold {s : State} (hf : s.foldLowercase = true) (c : Idx) :
    exec (.keyLower c) s = exec (.keyUpper c) s := by
  simp [exec, execKeyLower, execKeyUpper, hf]

/-- With folding off a lowercase letter is passed like any other character (R53). -/
theorem exec_keyLower_of_not_fold {s : State} (hf : s.foldLowercase = false) (c : Idx) :
    exec (.keyLower c) s = exec (.passChar (lowerLetter c)) s := by
  simp [exec, execKeyLower, execPassChar, hf]

theorem exec_passChar_usable {s : State} (h : s.Usable) (x : Char) :
    exec (.passChar x) s = .next { s with output := s.output ++ [x], result := .character x } :=
  State.onConfigured_usable h _

/-- Settles O50: with folding on by the equality of the two rows, with folding off by the meaning of `PASS`. -/
theorem lowercaseLetterFoldsOrPasses : Obligations.LowercaseLetterFoldsOrPasses := by
  intro s c hs
  constructor
  · intro hf
    have hfold := exec_keyLower_of_fold hf c
    exact ⟨hfold, _, hfold.trans (exec_keyUpper_usable hs c)⟩
  · intro hf
    exact ⟨lowerLetter c, lowerLetter_toNat c,
      (exec_keyLower_of_not_fold hf c).trans (exec_passChar_usable hs _)⟩

end Sys2Proof.Proofs
end

section
/-! SUPPORT. Proofs of the statements of 40_rotor.md: the two rotor maps, the step of one rotor, the notch test. -/

namespace Sys2Proof

/-! ### Writing one slot of a triple -/

@[simp] theorem PerSlot.get_set_same {α : Type} (p : PerSlot α) (r : Slot) (a : α) : (p.set r a).get r = a := by
  cases r <;> rfl

theorem PerSlot.get_set_of_ne {α : Type} (p : PerSlot α) {q r : Slot} (h : q ≠ r) (a : α) :
    (p.set r a).get q = p.get q := by
  revert h
  cases q <;> cases r <;> simp [PerSlot.get, PerSlot.set]

@[simp] theorem PerSlot.set_get_self {α : Type} (p : PerSlot α) (r : Slot) : p.set r (p.get r) = p := by
  cases r <;> rfl

/-- Of two writes of one slot the second stands. -/
@[simp] theorem PerSlot.set_set {α : Type} (p : PerSlot α) (r : Slot) (a b : α) :
    (p.set r a).set r b = p.set r b := by
  cases r <;> rfl

end Sys2Proof

namespace Sys2Proof.Proofs

open Sys2Proof Sys2Proof.Machine

/-! ### The inverse lookup -/

/-- On a bijection the inverse lookup finds the one index whose entry is the value (R38). -/
theorem eq_preimage_of_entry {t : Table} (h : Function.Bijective (entry t)) {i v : Idx} (hi : entry t i = v) :
    i = preimage t v :=
  h.injective (hi.trans (entry_preimage (isBijection_iff.mpr h) v).symm)

/-- The wirings of a usable state are bijections (R12). -/
theorem wiring_bijective_of_usable {s : State} (h : s.Usable) (r : Slot) :
    Function.Bijective (entry (s.wiring.get r)) := by
  obtain ⟨-, -, hw⟩ := h
  have hmem : s.wiring.get r ∈ s.wiring.toList := by cases r <;> simp [PerSlot.get, PerSlot.toList]
  exact isBijection_iff.mp (List.all_eq_true.mp hw _ hmem)

/-! ### The two rotor maps -/

/-- The inverse law (R74), first equation: the exit un-shift of `forward` meets the entry shift of `backward`. -/
theorem backward_forward {s : State} {r : Slot} (h : Function.Bijective (entry (s.wiring.get r))) (x : Idx) :
    s.backward r (s.forward r x) = x := by
  simp only [State.backward, State.forward, enterRotor_leaveRotor]
  rw [← eq_preimage_of_entry h rfl, leaveRotor_enterRotor]

/-- The inverse law (R74), second equation. -/
theorem forward_backward {s : State} {r : Slot} (h : Function.Bijective (entry (s.wiring.get r))) (x : Idx) :
    s.forward r (s.backward r x) = x := by
  simp only [State.backward, State.forward, enterRotor_leaveRotor]
  rw [entry_preimage (isBijection_iff.mpr h), leaveRotor_enterRotor]

/-- Settles O25: each map has the other as its two-sided inverse. -/
theorem rotorMapsAreMutuallyInverse : Obligations.RotorMapsAreMutuallyInverse := by
  intro s r h
  have hbf : Function.LeftInverse (s.backward r) (s.forward r) := backward_forward h
  have hfb : Function.RightInverse (s.backward r) (s.forward r) := forward_backward h
  exact ⟨hbf, hfb, ⟨hbf.injective, hfb.surjective⟩, ⟨hfb.injective, hbf.surjective⟩⟩

/-- Settles O22: the preimage the model looks up is the only one, and the inverse law. -/
theorem rotorBackwardValue : Obligations.RotorBackwardValue := by
  intro s r v hs
  have hbij := wiring_bijective_of_usable hs r
  refine ⟨⟨preimage (s.wiring.get r) (enterRotor (s.pos.get r) (s.ring.get r) v), ?lookup, ?unique, ?value⟩,
    backward_forward hbij v⟩
  case lookup => exact entry_preimage (isBijection_iff.mpr hbij) _
  case unique => exact fun j hj => eq_preimage_of_entry hbij hj
  case value => exact State.onConfigured_usable hs _

/-- Settles O21: the meaning of the row on a usable state is R70's formula. -/
theorem rotorForwardValue : Obligations.RotorForwardValue :=
  fun _ _ _ hs => State.onConfigured_usable hs _

/-! ### Only the difference of position and ring setting matters -/

theorem mod26_eq_mod26_iff {a b : Int} : mod26 a = mod26 b ↔ a % 26 = b % 26 := by
  rw [Fin.ext_iff, ← Int.natCast_inj, mod26_val, mod26_val]

theorem enterRotor_congr {p g p' g' : Idx}
    (h : mod26 ((p.val : Int) - g.val) = mod26 ((p'.val : Int) - g'.val)) (v : Idx) :
    enterRotor p g v = enterRotor p' g' v := by
  have hd := mod26_eq_mod26_iff.mp h
  exact mod26_eq_mod26_iff.mpr (by omega)

theorem leaveRotor_congr {p g p' g' : Idx}
    (h : mod26 ((p.val : Int) - g.val) = mod26 ((p'.val : Int) - g'.val)) (w : Idx) :
    leaveRotor p g w = leaveRotor p' g' w := by
  have hd := mod26_eq_mod26_iff.mp h
  exact mod26_eq_mod26_iff.mpr (by omega)

/-- Two rotors with the same wiring and the same difference compute the same two maps (R75). -/
theorem rotorMaps_congr {s t : State} {r : Slot} (hw : s.wiring.get r = t.wiring.get r)
    (hd : mod26 (((s.pos.get r).val : Int) - (s.ring.get r).val) =
      mod26 (((t.pos.get r).val : Int) - (t.ring.get r).val)) (v : Idx) :
    s.forward r v = t.forward r v ∧ s.backward r v = t.backward r v := by
  simp only [State.forward, State.backward, hw, enterRotor_congr hd, leaveRotor_congr hd, and_self]

theorem nextPosition_val (p : Idx) : ((nextPosition p).val : Int) = ((p.val : Int) + 1) % 26 :=
  mod26_val _

/-- Raising position and ring setting together keeps their difference. -/
theorem mod26_nextPosition_sub (p g : Idx) :
    mod26 (((nextPosition p).val : Int) - (nextPosition g).val) = mod26 ((p.val : Int) - g.val) := by
  rw [mod26_eq_mod26_iff, nextPosition_val, nextPosition_val]
  omega

theorem atNotch_iff {s : State} {r : Slot} : s.atNotch r = true ↔ s.pos.get r = s.notch.get r :=
  beq_iff_eq

/-- Settles O26: the raised rotor is a second rotor with the same difference; its notch test reads the raised position. -/
theorem onlyThePositionRingDifferenceMatters : Obligations.OnlyThePositionRingDifferenceMatters := by
  refine ⟨fun s t r hw hd v => rotorMaps_congr hw hd v, ?_⟩
  intro s r v raised
  have hpos : raised.pos.get r = nextPosition (s.pos.get r) := PerSlot.get_set_same ..
  have hring : raised.ring.get r = nextPosition (s.ring.get r) := PerSlot.get_set_same ..
  have hwiring : raised.wiring.get r = s.wiring.get r := rfl
  have hnotch : raised.notch.get r = s.notch.get r := rfl
  obtain ⟨hforward, hbackward⟩ : raised.forward r v = s.forward r v ∧ raised.backward r v = s.backward r v :=
    rotorMaps_congr hwiring (by rw [hpos, hring, mod26_nextPosition_sub]) v
  exact ⟨hforward, hbackward, by rw [atNotch_iff, hpos, hnotch]⟩

/-! ### The step of one rotor -/

/-- Each step adds one, and reduction may wait until the end of the sum (R76). -/
theorem stepRotor_iterate (s : State) (r : Slot) (n : Nat) :
    (fun u : State => u.stepRotor r)^[n] s = s.withPos (s.pos.set r (mod26 (((s.pos.get r).val : Int) + n))) := by
  induction n with
  | zero => simp
  | succ n ih =>
    have hnext : nextPosition (mod26 (((s.pos.get r).val : Int) + n)) =
        mod26 (((s.pos.get r).val : Int) + (n + 1 : Nat)) := by
      rw [nextPosition, mod26_eq_mod26_iff, mod26_val]
      omega
    rw [Function.iterate_succ_apply', ih, State.stepRotor, State.withPos_withPos, State.withPos_pos,
      PerSlot.get_set_same, PerSlot.set_set, hnext]

/-- Settles O23: the meaning of the row, the write of one slot, and 26 single steps added up. -/
theorem rotorStepAdvancesOnePosition : Obligations.RotorStepAdvancesOnePosition := by
  intro s r hs
  refine ⟨State.onConfigured_usable hs _, fun q a hq => ⟨PerSlot.get_set_of_ne _ hq a, PerSlot.get_set_same _ r a⟩, ?_⟩
  have hwrap : mod26 (((s.pos.get r).val : Int) + (26 : Nat)) = s.pos.get r :=
    (eq_mod26_of_dvd_sub (by omega)).symm
  rw [stepRotor_iterate, hwrap, PerSlot.set_get_self, State.withPos_self]

/-! ### The notch test -/

/-- Settles O24: the meaning of the row, and the notch itself as the only position that makes the test true. -/
theorem notchComparesPositionOnly : Obligations.NotchComparesPositionOnly := by
  intro s r hs
  refine ⟨State.onConfigured_usable hs _, s.notch.get r, ?_, fun p hp => ?_⟩
  · exact atNotch_iff.mpr (PerSlot.get_set_same ..)
  · exact (PerSlot.get_set_same ..).symm.trans (atNotch_iff.mp hp)

end Sys2Proof.Proofs
end

section
/-! SUPPORT. Proofs of the statements of 41_plugboard_reflector.md: the plugboard table of a legal configuration, the
state a valid `CONFIG` leaves, and the reflector. -/

namespace Sys2Proof.Proofs

open Sys2Proof Sys2Proof.Machine

/-! ### What validation guarantees of the pairs -/

theorem validate_eq_noError {n : Nat} {k : Configuration} :
    validate n k = .noError ↔
      rangeOk k = true ∧ disjointOk k = true ∧ rotorsOk n k = true ∧ formatOk k = true := by
  unfold validate
  cases rangeOk k <;> cases disjointOk k <;> cases rotorsOk n k <;> cases formatOk k <;> simp

theorem noRepeat_iff_nodup {l : List Int} : noRepeat l = true ↔ l.Nodup := by
  induction l with
  | nil => simp [noRepeat]
  | cons a l ih => simp [noRepeat, ih]

/-- V2 skips elements that are no letters; V4 leaves none, so the two checks together cover every element (R86). -/
theorem pairElements_of_valid {n : Nat} {k : Configuration} (h : validate n k = .noError) :
    (pairElements k.pairs).Nodup ∧ ∀ x ∈ pairElements k.pairs, inIdx x = true := by
  obtain ⟨-, hdisjoint, -, hformat⟩ := validate_eq_noError.mp h
  have hletters : ∀ x ∈ pairElements k.pairs, inIdx x = true := List.all_eq_true.mp hformat
  rw [disjointOk, List.filter_eq_self.mpr hletters, noRepeat_iff_nodup] at hdisjoint
  exact ⟨hdisjoint, hletters⟩

/-! ### The indices a list of pairs wires -/

/-- The table entries `plugTable` writes for the pairs (R89). -/
def wiredIndices (pairs : List (Int × Int)) : List Idx := (pairElements pairs).map mod26

@[simp] theorem wiredIndices_nil : wiredIndices [] = [] := rfl

@[simp] theorem wiredIndices_cons (p : Int × Int) (ps : List (Int × Int)) :
    wiredIndices (p :: ps) = mod26 p.1 :: mod26 p.2 :: wiredIndices ps := rfl

theorem mem_wiredIndices {ps : List (Int × Int)} {v : Idx} :
    v ∈ wiredIndices ps ↔ ∃ p ∈ ps, v = mod26 p.1 ∨ v = mod26 p.2 := by
  induction ps with
  | nil => simp
  | cons p ps ih => simp [ih, or_assoc]

theorem wiredIndices_nodup_of_valid {n : Nat} {k : Configuration} (h : validate n k = .noError) :
    (wiredIndices k.pairs).Nodup := by
  obtain ⟨hnodup, hletters⟩ := pairElements_of_valid h
  refine hnodup.map_on fun x hx y hy hxy => ?_
  rw [← mod26_inIdx (hletters x hx), ← mod26_inIdx (hletters y hy), hxy]

/-- A letter that is an element of no pair is not wired: reduction mod 26 moves no legal element. -/
theorem not_mem_wiredIndices_of_valid {n : Nat} {k : Configuration} (h : validate n k = .noError) {v : Idx}
    (hv : ∀ p ∈ k.pairs, p.1 ≠ (v.val : Int) ∧ p.2 ≠ (v.val : Int)) : v ∉ wiredIndices k.pairs := by
  intro hmem
  obtain ⟨-, hletters⟩ := pairElements_of_valid h
  obtain ⟨x, hx, rfl⟩ := List.mem_map.mp hmem
  obtain ⟨p, hp, hxp⟩ := List.mem_flatMap.mp hx
  rw [mod26_inIdx (hletters x hx)] at hv
  obtain ⟨hfst, hsnd⟩ := hv p hp
  simp [hfst.symm, hsnd.symm] at hxp

/-! ### The entries of a plugboard table -/

/-- Wiring pairs leaves every other entry as it was. -/
theorem entry_foldl_plugPair_of_not_mem {ps : List (Int × Int)} {v : Idx} (h : v ∉ wiredIndices ps) (t : Table) :
    entry (ps.foldl plugPair t) v = entry t v := by
  induction ps generalizing t with
  | nil => rfl
  | cons p ps ih =>
    simp only [wiredIndices_cons, List.mem_cons, not_or] at h
    obtain ⟨hfst, hsnd, hrest⟩ := h
    rw [List.foldl_cons, ih hrest, entry_plugPair, if_neg (Ne.symm hsnd), if_neg (Ne.symm hfst)]

/-- Pairs that share no index are wired both ways: no later pair overwrites an earlier one. -/
theorem entry_foldl_plugPair_of_mem {ps : List (Int × Int)} (h : (wiredIndices ps).Nodup) {p : Int × Int}
    (hp : p ∈ ps) (t : Table) :
    entry (ps.foldl plugPair t) (mod26 p.1) = mod26 p.2 ∧ entry (ps.foldl plugPair t) (mod26 p.2) = mod26 p.1 := by
  induction ps generalizing t with
  | nil => cases hp
  | cons q ps ih =>
    simp only [wiredIndices_cons, List.nodup_cons, List.mem_cons, not_or] at h
    obtain ⟨⟨hne, hfst⟩, hsnd, hrest⟩ := h
    obtain rfl | hp := List.mem_cons.mp hp
    · simp [entry_foldl_plugPair_of_not_mem hfst, entry_foldl_plugPair_of_not_mem hsnd, entry_plugPair, Ne.symm hne]
    · exact ih hrest hp _

theorem entry_plugTable_of_not_mem {ps : List (Int × Int)} {v : Idx} (h : v ∉ wiredIndices ps) :
    entry (plugTable ps) v = v :=
  (entry_foldl_plugPair_of_not_mem h identityTable).trans (entry_identityTable v)

theorem entry_plugTable_of_mem {ps : List (Int × Int)} (h : (wiredIndices ps).Nodup) {p : Int × Int} (hp : p ∈ ps) :
    entry (plugTable ps) (mod26 p.1) = mod26 p.2 ∧ entry (plugTable ps) (mod26 p.2) = mod26 p.1 :=
  entry_foldl_plugPair_of_mem h hp identityTable

/-- A wired index goes to its partner and back; any other stays (R82). -/
theorem plugTable_involutive {ps : List (Int × Int)} (h : (wiredIndices ps).Nodup) :
    Function.Involutive (entry (plugTable ps)) := by
  intro v
  by_cases hv : v ∈ wiredIndices ps
  · obtain ⟨p, hp, hvp⟩ := mem_wiredIndices.mp hv
    obtain ⟨hforth, hback⟩ := entry_plugTable_of_mem h hp
    obtain rfl | rfl := hvp
    · rw [hforth, hback]
    · rw [hback, hforth]
  · rw [entry_plugTable_of_not_mem hv, entry_plugTable_of_not_mem hv]

/-- Settles O29: a legal configuration wires no index twice, and such a table is an involution. -/
theorem plugboardIsAnInvolution : Obligations.PlugboardIsAnInvolution := by
  intro n k hvalid
  have hinv := plugTable_involutive (wiredIndices_nodup_of_valid hvalid)
  exact ⟨hinv, hinv.bijective⟩

/-! ### The state a valid `CONFIG` leaves -/

theorem exec_config_of_valid {s : State} {k : Configuration} (hp : s.parametersOk = true)
    (hvalid : validate s.catalog.length k = .noError) :
    exec (.config k) s = .next (((s.install k).respond [Cause.noError.code]).withResult (.status .noError)) := by
  obtain ⟨-, hconstruct⟩ | ⟨hinvalid, -⟩ := s.construct_cases k
  · simp [exec, execConfig, hp, hconstruct]
  · exact absurd hvalid hinvalid

/-- Over a well-formed catalog every identifier gives a bijective wiring (R45). -/
theorem isBijection_catalogEntry {catalog : List RotorType} (h : catalogOk catalog = true) (n : Nat) :
    isBijection (catalogEntry catalog n).wiring = true := by
  obtain ⟨-, hwirings⟩ := Bool.and_eq_true_iff.mp h
  rw [catalogEntry, List.getD_eq_getElem?_getD]
  cases hentry : catalog[n]? with
  | none => exact isBijection_iff_surjective.mpr fun v => ⟨v, entry_identityTable v⟩
  | some e => exact List.all_eq_true.mp hwirings e (List.mem_of_getElem? hentry)

theorem install_wiringsOk {s : State} (h : s.parametersOk = true) (k : Configuration) :
    (s.install k).wiringsOk = true := by
  obtain ⟨hcatalog, -⟩ := Bool.and_eq_true_iff.mp h
  simp [State.wiringsOk, configuredBank, PerSlot.map, PerSlot.toList, isBijection_catalogEntry hcatalog]

/-- A successful construction over well-formed tables leaves a usable state (R87). -/
theorem install_usable {s : State} (h : s.parametersOk = true) (k : Configuration) : (s.install k).Usable :=
  ⟨h, rfl, install_wiringsOk h k⟩

theorem exists_exec_config_usable_plug {s : State} {k : Configuration} (hp : s.parametersOk = true)
    (hvalid : validate s.catalog.length k = .noError) :
    ∃ t, exec (.config k) s = .next t ∧ t.Usable ∧ t.plug = plugTable k.pairs :=
  ⟨_, exec_config_of_valid hp hvalid, install_usable hp k, rfl⟩

/-! ### `PLUG.SWAP` -/

theorem exec_plugSwap_usable {s : State} (h : s.Usable) (v : Idx) :
    exec (.plugSwap v) s = .next { s with result := .index (entry s.plug v) } :=
  State.onConfigured_usable h _

/-- Settles O27: the lookup on a usable state, and the entries of the table a valid `CONFIG` installs. -/
theorem plugSwapExchangesConfiguredPairs : Obligations.PlugSwapExchangesConfiguredPairs := by
  refine ⟨fun s v hs => exec_plugSwap_usable hs v, fun s k hp hvalid => ?_⟩
  obtain ⟨t, hexec, husable, hplug⟩ := exists_exec_config_usable_plug hp hvalid
  have hswap : ∀ {v w : Idx}, entry (plugTable k.pairs) v = w →
      exec (.plugSwap v) t = .next { t with result := .index w } := by
    rintro v _ rfl
    rw [exec_plugSwap_usable husable, hplug]
  refine ⟨t, hexec, fun a b hab => ?paired, fun v hv => ?unpaired⟩
  case paired =>
    obtain ⟨hforth, hback⟩ := entry_plugTable_of_mem (wiredIndices_nodup_of_valid hvalid) hab
    simp only [mod26_idx] at hforth hback
    exact ⟨hswap hforth, hswap hback⟩
  case unpaired =>
    exact hswap (entry_plugTable_of_not_mem (not_mem_wiredIndices_of_valid hvalid hv))

/-! ### The reflector -/

/-- The precondition on `REFLECTOR` as the two laws of R83. -/
theorem reflect_laws {s : State} (h : s.parametersOk = true) (v : Idx) :
    s.reflect (s.reflect v) = v ∧ s.reflect v ≠ v := by
  obtain ⟨-, hreflector⟩ := Bool.and_eq_true_iff.mp h
  obtain ⟨hinvolution, hnoFixedPoint⟩ := Bool.and_eq_true_iff.mp hreflector
  exact ⟨isInvolution_iff.mp hinvolution v, hasNoFixedPoint_iff.mp hnoFixedPoint v⟩

/-- Settles O30: the precondition of R45 demands both laws of the reflector. -/
theorem reflectorHasNoFixedPoint : Obligations.ReflectorHasNoFixedPoint :=
  fun _ hp v => reflect_laws hp v

/-- Settles O28: the meaning of the row, and the second law of R83. -/
theorem reflectorIsABareLookup : Obligations.ReflectorIsABareLookup := by
  intro s v hs
  have hp : s.parametersOk = true := hs.1
  exact ⟨State.onConfigured_usable hs _, (reflect_laws hp v).2⟩

end Sys2Proof.Proofs
end

section
/-! SUPPORT. Proofs of the statements of 42_construction.md: the plugboard table depends on no order (R89). -/

namespace Sys2Proof.Proofs

open Sys2Proof Sys2Proof.Machine

/-- A table is its 26 entries. -/
theorem table_eq_of_entry_eq {t u : Table} (h : ∀ v, entry t v = entry u v) : t = u :=
  Vector.ext fun i hi => h ⟨i, hi⟩

/-! ### The order within a pair -/

/-- Holds of every pair: where the two writes meet, they write the same value. -/
theorem plugPair_swap (t : Table) (p : Int × Int) : plugPair t p.swap = plugPair t p := by
  refine table_eq_of_entry_eq fun v => ?_
  rw [entry_plugPair, entry_plugPair, Prod.fst_swap, Prod.snd_swap]
  by_cases hfst : mod26 p.1 = v <;> by_cases hsnd : mod26 p.2 = v <;> simp [hfst, hsnd]

theorem plugTable_map_swap (ps : List (Int × Int)) : plugTable (ps.map Prod.swap) = plugTable ps := by
  simp only [plugTable, List.foldl_map, plugPair_swap]

/-! ### The order of the pairs -/

theorem wiredIndices_perm {ps qs : List (Int × Int)} (h : ps.Perm qs) :
    (wiredIndices ps).Perm (wiredIndices qs) :=
  (h.flatMap_right _).map _

/-- Pairs that share no index give each entry independently of when they are wired. -/
theorem plugTable_eq_of_perm {ps qs : List (Int × Int)} (hq : (wiredIndices qs).Nodup) (h : ps.Perm qs) :
    plugTable ps = plugTable qs := by
  have hwired := wiredIndices_perm h
  have hp : (wiredIndices ps).Nodup := hwired.nodup_iff.mpr hq
  refine table_eq_of_entry_eq fun v => ?_
  by_cases hv : v ∈ wiredIndices qs
  · obtain ⟨p, hmem, hvp⟩ := mem_wiredIndices.mp hv
    obtain ⟨hforth, hback⟩ := entry_plugTable_of_mem hq hmem
    obtain ⟨hforth', hback'⟩ := entry_plugTable_of_mem hp (h.mem_iff.mpr hmem)
    obtain rfl | rfl := hvp
    · exact hforth'.trans hforth.symm
    · exact hback'.trans hback.symm
  · rw [entry_plugTable_of_not_mem hv, entry_plugTable_of_not_mem (mt hwired.mem_iff.mp hv)]

/-- Settles O34: a legal configuration wires no index twice, so its table is fixed by which pairs it has. -/
theorem plugTableIgnoresOrder : Obligations.PlugTableIgnoresOrder := by
  intro n k hvalid
  have hnodup := wiredIndices_nodup_of_valid hvalid
  refine ⟨fun a b hab => ?paired, fun v hv => ?unpaired, fun ps hperm => plugTable_eq_of_perm hnodup hperm,
    plugTable_map_swap k.pairs, rfl⟩
  case paired => simpa only [mod26_idx] using entry_plugTable_of_mem hnodup hab
  case unpaired => exact entry_plugTable_of_not_mem (not_mem_wiredIndices_of_valid hvalid hv)

end Sys2Proof.Proofs
end

section
/-! SUPPORT. Proofs of the statements of 43_stepping.md: the simultaneous form of `STEPALL` and the double step. -/

namespace Sys2Proof.Proofs

open Sys2Proof Sys2Proof.Machine

/-! ### The positions after `STEPALL`, by who steps (the table of R96) -/

theorem stepAll_pos_of_middle {s : State} (hm : s.atNotch .M = true) :
    s.stepAll.pos = ⟨nextPosition s.pos.L, nextPosition s.pos.M, nextPosition s.pos.R⟩ := by
  simp [State.stepAll, hm, PerSlot.set, PerSlot.get]

theorem stepAll_pos_of_right {s : State} (hm : s.atNotch .M = false) (hr : s.atNotch .R = true) :
    s.stepAll.pos = ⟨s.pos.L, nextPosition s.pos.M, nextPosition s.pos.R⟩ := by
  simp [State.stepAll, hm, hr, PerSlot.set, PerSlot.get]

theorem stepAll_pos_of_neither {s : State} (hm : s.atNotch .M = false) (hr : s.atNotch .R = false) :
    s.stepAll.pos = ⟨s.pos.L, s.pos.M, nextPosition s.pos.R⟩ := by
  simp [State.stepAll, hm, hr, PerSlot.set, PerSlot.get]

theorem atNotch_eq_false_iff {s : State} {r : Slot} : s.atNotch r = false ↔ s.pos.get r ≠ s.notch.get r :=
  beq_eq_false_iff_ne

/-- R96: the four steps of R95 write the three functions of the old positions. -/
theorem stepAll_pos (s : State) :
    s.stepAll.pos =
      { L := if s.pos.M = s.notch.M then nextPosition s.pos.L else s.pos.L,
        M := if s.pos.M = s.notch.M ∨ s.pos.R = s.notch.R then nextPosition s.pos.M else s.pos.M,
        R := nextPosition s.pos.R } := by
  by_cases hm : s.pos.M = s.notch.M
  · simp [stepAll_pos_of_middle (atNotch_iff.mpr hm), hm]
  · have hm' : s.atNotch .M = false := atNotch_eq_false_iff.mpr hm
    by_cases hr : s.pos.R = s.notch.R
    · simp [stepAll_pos_of_right hm' (atNotch_iff.mpr hr), hm, hr]
    · simp [stepAll_pos_of_neither hm' (atNotch_eq_false_iff.mpr hr), hm, hr]

theorem exec_stepAll_usable {s : State} (h : s.Usable) :
    exec .stepAll s = .next ((s.withPos s.stepAll.pos).withResult .none) := by
  rw [← s.stepAll_frame]
  exact State.onConfigured_usable h _

/-- Settles O41: `STEPALL` writes only the positions, and those are the three functions of the old ones. -/
theorem stepAllSimultaneousForm : Obligations.StepAllSimultaneousForm := by
  intro s hs
  rw [exec_stepAll_usable hs, stepAll_pos]
  rfl

/-! ### The double step -/

/-- What stepping needs to know of a keypress: it completes, steps the rotors, keeps the notches, and another may
follow (R101). -/
theorem exists_exec_key_usable {s : State} (h : s.Usable) (c : Idx) :
    ∃ t, exec (.key c) s = .next t ∧ t.Usable ∧ t.pos = s.stepAll.pos ∧ t.notch = s.notch := by
  refine ⟨_, State.onConfigured_usable h _, ?_, rfl, s.stepAll_notch⟩
  simpa [State.Usable, State.parametersOk, State.wiringsOk] using h

theorem nextPosition_mod26 (a : Int) : nextPosition (mod26 a) = mod26 (a + 1) := by
  rw [nextPosition, mod26_eq_mod26_iff, mod26_val]
  omega

theorem mod26_add_ne {n : Idx} {d : Int} (hd : d % 26 ≠ 0) : mod26 ((n.val : Int) + d) ≠ n := by
  have hval := mod26_val ((n.val : Int) + d)
  intro h
  rw [h] at hval
  omega

/-- A rotor `d` places past its notch is at the notch only when `d` is a multiple of 26. -/
theorem atNotch_eq_false_of_pos_eq_add {s : State} {r : Slot} {d : Int}
    (hpos : s.pos.get r = mod26 (((s.notch.get r).val : Int) + d)) (hd : d % 26 ≠ 0) : s.atNotch r = false :=
  atNotch_eq_false_iff.mpr (hpos.trans_ne (mod26_add_ne hd))

/-- Settles O42: each keypress is one row of R98's table, the right rotor carrying, then the middle, then neither. -/
theorem middleRotorDoubleSteps : Obligations.MiddleRotorDoubleSteps := by
  intro s a b c hs hM hR
  rw [sub_eq_add_neg] at hM
  obtain ⟨t, ht, htUsable, htPos, htNotch⟩ := exists_exec_key_usable hs a
  obtain ⟨u, hu, huUsable, huPos, huNotch⟩ := exists_exec_key_usable htUsable b
  obtain ⟨v, hv, -, hvPos, -⟩ := exists_exec_key_usable huUsable c
  have hfirst : t.pos = ⟨s.pos.L, s.notch.M, mod26 ((s.notch.R.val : Int) + 1)⟩ := by
    have hm : s.atNotch .M = false := atNotch_eq_false_of_pos_eq_add hM (by decide)
    have hr : s.atNotch .R = true := atNotch_iff.mpr hR
    rw [htPos, stepAll_pos_of_right hm hr, hM, hR, nextPosition_mod26, neg_add_cancel_right, mod26_idx]
    rfl
  have hsecond : u.pos = ⟨mod26 ((s.pos.L.val : Int) + 1), mod26 ((s.notch.M.val : Int) + 1),
      mod26 ((s.notch.R.val : Int) + 2)⟩ := by
    have hm : t.atNotch .M = true := atNotch_iff.mpr (by rw [hfirst, htNotch]; rfl)
    rw [huPos, stepAll_pos_of_middle hm, hfirst, nextPosition_mod26, add_assoc]
    rfl
  have hthird : v.pos = ⟨mod26 ((s.pos.L.val : Int) + 1), mod26 ((s.notch.M.val : Int) + 1),
      mod26 ((s.notch.R.val : Int) + 3)⟩ := by
    have hnotch : u.notch = s.notch := huNotch.trans htNotch
    have hm : u.atNotch .M = false :=
      atNotch_eq_false_of_pos_eq_add (d := 1) (by rw [hsecond, hnotch]; rfl) (by decide)
    have hr : u.atNotch .R = false :=
      atNotch_eq_false_of_pos_eq_add (d := 2) (by rw [hsecond, hnotch]; rfl) (by decide)
    rw [hvPos, stepAll_pos_of_neither hm hr, hsecond, nextPosition_mod26, add_assoc]
    rfl
  exact ⟨t, u, v, ht, hu, hv, hfirst, hsecond, hthird⟩

end Sys2Proof.Proofs
end

section
/-! SUPPORT. Proofs of the statements of 44_signal_path.md: the rows `PATH` and `KEY` on a usable state, and the path as
the reflector conjugated by its outgoing half. -/

namespace Sys2Proof.Proofs

open Sys2Proof Sys2Proof.Machine

/-! ### The meanings of `PATH` and `KEY` on a usable state -/

theorem exec_path_usable {s : State} (h : s.Usable) (v : Idx) :
    exec (.path v) s = .next (s.withResult (.index (s.path v))) :=
  State.onConfigured_usable h _

theorem exec_key_usable {s : State} (h : s.Usable) (c : Idx) :
    exec (.key c) s = .next ((s.stepAll.respond [idxByte (s.keyed c)]).withResult (.index (s.keyed c))) :=
  State.onConfigured_usable h _

/-- Settles O44: the two halves of the path and the reflector between them, written out, are the nine stages. -/
theorem pathIsTheNineStages : Obligations.PathIsTheNineStages :=
  fun _ v hs => exec_path_usable hs v

/-- Settles O48: the frame of `STEPALL`, put into the meaning of the row. -/
theorem keyStepsThenEnciphers : Obligations.KeyStepsThenEnciphers := by
  intro s c hs stepped
  have hframe : s.stepAll = stepped := s.stepAll_frame
  refine ⟨hframe, ?_⟩
  rw [exec_key_usable hs, State.keyed, hframe]
  rfl

/-! ### What the invariant gives a configured instance -/

/-- Each slot holds a catalog wiring (R31), and those are bijections (R45). -/
theorem usable_of_inv {s : State} (h : s.Inv) (hc : s.configured = true) : s.Usable := by
  obtain ⟨hp, hconfigured⟩ := h
  obtain ⟨-, -, hslots⟩ := hconfigured hc
  obtain ⟨hcatalog, -⟩ := Bool.and_eq_true_iff.mp hp
  obtain ⟨-, hwirings⟩ := Bool.and_eq_true_iff.mp hcatalog
  have hslot (r : Slot) : isBijection (s.wiring.get r) = true :=
    List.all_eq_true.mp hwirings _ (List.mem_of_getElem? (hslots r))
  refine ⟨hp, hc, ?_⟩
  simpa [State.wiringsOk, PerSlot.toList] using ⟨hslot .L, hslot .M, hslot .R⟩

theorem plugSwap_involutive_of_inv {s : State} (h : s.Inv) (hc : s.configured = true) :
    Function.Involutive s.plugSwap := by
  obtain ⟨-, hconfigured⟩ := h
  obtain ⟨-, hplug, -⟩ := hconfigured hc
  exact isInvolution_iff.mp hplug

/-- The invariant speaks of no position, so `STEPALL` keeps it. -/
theorem inv_stepAll {s : State} (h : s.Inv) : s.stepAll.Inv := by
  simpa [State.Inv, State.parametersOk] using h

/-! ### The path is the reflector conjugated by the outgoing half (R103) -/

/-- The return half undoes the outgoing half, stage by stage. -/
theorem homeward_outward {s : State} (hs : s.Usable) (hplug : Function.Involutive s.plugSwap) (x : Idx) :
    s.homeward (s.outward x) = x := by
  have hback (r : Slot) (v : Idx) : s.backward r (s.forward r v) = v :=
    backward_forward (wiring_bijective_of_usable hs r) v
  rw [State.homeward, State.outward, hback, hback, hback, hplug]

/-- The outgoing half undoes the return half, stage by stage. -/
theorem outward_homeward {s : State} (hs : s.Usable) (hplug : Function.Involutive s.plugSwap) (y : Idx) :
    s.outward (s.homeward y) = y := by
  have hforth (r : Slot) (v : Idx) : s.forward r (s.backward r v) = v :=
    forward_backward (wiring_bijective_of_usable hs r) v
  rw [State.homeward, State.outward, hplug, hforth, hforth, hforth]

/-- Between the two passes the halves cancel, then the reflector does (R103). -/
theorem path_involutive {s : State} (h : s.Inv) (hc : s.configured = true) : Function.Involutive s.path := by
  intro x
  have hs := usable_of_inv h hc
  have hplug := plugSwap_involutive_of_inv h hc
  obtain ⟨hp, -⟩ := h
  obtain ⟨hreflect, -⟩ := reflect_laws hp (s.outward x)
  rw [State.path, State.path, outward_homeward hs hplug, hreflect, homeward_outward hs hplug]

/-- A fixed point of the path would be carried by the outgoing half to a fixed point of the reflector (R104). -/
theorem path_ne_self {s : State} (h : s.Inv) (hc : s.configured = true) (x : Idx) : s.path x ≠ x := by
  intro hfixed
  have houtward : s.outward (s.path x) = s.reflect (s.outward x) :=
    outward_homeward (usable_of_inv h hc) (plugSwap_involutive_of_inv h hc) _
  obtain ⟨hp, -⟩ := h
  obtain ⟨-, hne⟩ := reflect_laws hp (s.outward x)
  rw [hfixed] at houtward
  exact hne houtward.symm

/-- Settles O45: the path is an involution. -/
theorem pathIsReciprocal : Obligations.PathIsReciprocal :=
  fun _ x h hc => path_involutive h hc x

/-- Settles O46: `KEY` answers with the path of the stepped state, which meets the invariant too. -/
theorem noLetterEnciphersToItself : Obligations.NoLetterEnciphersToItself := by
  intro s x h hc
  have hkeyed : s.keyed x ≠ x := path_ne_self (inv_stepAll h) (s.stepAll_configured.trans hc) x
  exact ⟨path_ne_self h hc x, _, s.keyed x, exec_key_usable (usable_of_inv h hc) x, rfl, hkeyed⟩

/-- Settles O47: an involution is a bijection, and both rows complete on a usable state. -/
theorem pathIsATotalBijection : Obligations.PathIsATotalBijection := by
  intro s h hc
  have hs := usable_of_inv h hc
  have hpath := path_involutive h hc
  refine ⟨hpath.bijective, fun x => ⟨hpath x, path_ne_self h hc x⟩, fun v => ⟨?path, ?key⟩⟩
  case path => exact ⟨_, s.path v, exec_path_usable hs v, rfl⟩
  case key => exact ⟨_, s.keyed v, exec_key_usable hs v, rfl⟩

end Sys2Proof.Proofs
end

section
/-! SUPPORT. Proofs of the statements of 45_process.md: what text processing reads, the loop of `PROCESS` over joined
texts (R112, R113, R115), and the positions read out (R116). -/

namespace Sys2Proof.Proofs

open Sys2Proof Sys2Proof.Machine

/-! ### What text processing reads -/

/-- Two states equal in everything stepping, the path and the class of a character read. -/
structure SameCipher (s t : State) : Prop where
  foldLowercase : s.foldLowercase = t.foldLowercase
  reflector : s.reflector = t.reflector
  wiring : s.wiring = t.wiring
  notch : s.notch = t.notch
  pos : s.pos = t.pos
  ring : s.ring = t.ring
  plug : s.plug = t.plug

namespace SameCipher

variable {s t : State}

theorem path_eq (h : SameCipher s t) (v : Idx) : s.path v = t.path v := by
  simp only [State.path, State.homeward, State.outward, State.plugSwap, State.reflect, State.forward, State.backward,
    h.reflector, h.wiring, h.pos, h.ring, h.plug]

theorem stepAll (h : SameCipher s t) : SameCipher s.stepAll t.stepAll where
  foldLowercase := by simp [h.foldLowercase]
  reflector := by simp [h.reflector]
  wiring := by simp [h.wiring]
  notch := by simp [h.notch]
  pos := by rw [stepAll_pos, stepAll_pos, h.pos, h.notch]
  ring := by simp [h.ring]
  plug := by simp [h.plug]

theorem charResult_eq (h : SameCipher s t) (x : Char) : s.charResult x = t.charResult x := by
  simp only [State.charResult, State.keyed, h.foldLowercase, h.stepAll.path_eq]

theorem charNext (h : SameCipher s t) (x : Char) : SameCipher (s.charNext x) (t.charNext x) := by
  unfold State.charNext
  rw [h.foldLowercase]
  cases letterOf t.foldLowercase x with
  | none => exact h
  | some => exact h.stepAll

theorem processLoop (h : SameCipher s t) (m : List Char) :
    (s.processLoop m).1 = (t.processLoop m).1 ∧ SameCipher (s.processLoop m).2 (t.processLoop m).2 := by
  induction m generalizing s t with
  | nil => exact ⟨rfl, h⟩
  | cons x m ih =>
    obtain ⟨htext, hstate⟩ := ih (h.charNext x)
    exact ⟨congrArg₂ List.cons (h.charResult_eq x) htext, hstate⟩

end SameCipher

/-- What earlier operations delivered does not enter the loop. -/
theorem processLoop_delivered (s : State) (o : List Char) (r : Result) (m : List Char) :
    ((s.emitText o).withResult r).processLoop m =
      ((s.processLoop m).1, ((s.processLoop m).2.emitText o).withResult r) := by
  have hsame : SameCipher ((s.emitText o).withResult r) s := ⟨rfl, rfl, rfl, rfl, rfl, rfl, rfl⟩
  obtain ⟨htext, hstate⟩ := hsame.processLoop m
  refine Prod.ext htext ?_
  rw [State.processLoop_frame, hstate.pos, s.processLoop_frame]
  rfl

/-! ### The host interface -/

@[simp] theorem emitText_emitText (s : State) (o p : List Char) : (s.emitText o).emitText p = s.emitText (o ++ p) := by
  simp [State.emitText]

theorem emitText_withResult (s : State) (r : Result) (o : List Char) :
    (s.withResult r).emitText o = (s.emitText o).withResult r := rfl

@[simp] theorem withResult_withResult (s : State) (q r : Result) :
    (s.withResult q).withResult r = s.withResult r := rfl

/-! ### One turn of the loop, by the class of its character (R110) -/

section

variable {s : State} {x : Char} {c : Idx}

theorem charResult_of_letter (h : letterOf s.foldLowercase x = some c) : s.charResult x = letter (s.keyed c) := by
  simp [State.charResult, h]

theorem charResult_of_other (h : letterOf s.foldLowercase x = none) : s.charResult x = x := by
  simp [State.charResult, h]

theorem charNext_of_letter (h : letterOf s.foldLowercase x = some c) : s.charNext x = s.stepAll := by
  simp [State.charNext, h]

theorem charNext_of_other (h : letterOf s.foldLowercase x = none) : s.charNext x = s := by
  simp [State.charNext, h]

end

/-! ### The meanings of `CHAR` and `PROCESS` on a usable state -/

theorem exec_char_usable {s : State} (h : s.Usable) (x : Char) :
    exec (.char x) s =
      .next (((s.charNext x).emitText [s.charResult x]).withResult (.character (s.charResult x))) :=
  State.onConfigured_usable h _

theorem exec_process_usable {s : State} (h : s.Usable) (m : List Char) :
    exec (.process m) s =
      .next (((s.processLoop m).2.emitText (s.processLoop m).1).withResult (.text (s.processLoop m).1)) :=
  State.onConfigured_usable h _

/-- The loop writes only positions, which no precondition reads. -/
theorem usable_processLoop {s : State} (h : s.Usable) (m : List Char) : (s.processLoop m).2.Usable := by
  rw [s.processLoop_frame]
  exact h

theorem exec_char_of_letterOf {s : State} {x : Char} {c : Idx} (h : letterOf s.foldLowercase x = some c) :
    exec (.char x) s = exec (.keyUpper c) s := by
  simp [exec, execChar, execKeyUpper, charResult_of_letter h, charNext_of_letter h]

theorem exec_char_of_letterOf_eq_none {s : State} {x : Char} (h : letterOf s.foldLowercase x = none) :
    exec (.char x) s = exec (.passChar x) s := by
  simp [exec, execChar, execPassChar, charResult_of_other h, charNext_of_other h]

theorem letterOf_of_upperIndex (fold : Bool) {x : Char} {c : Idx} (h : upperIndex x = some c) :
    letterOf fold x = some c := by
  simp [letterOf, h]

theorem letterOf_of_lowerIndex {x : Char} {c : Idx} (h : lowerIndex x = some c) : letterOf true x = some c := by
  simp [letterOf, upperIndex_eq_none_of_lowerIndex h, h]

/-! ### `RDPOS`, and the branches of `CHAR` -/

/-- Settles O58: the meaning of the row on a usable state. -/
theorem positionsAreReadWithoutEffect : Obligations.PositionsAreReadWithoutEffect :=
  fun _ hs => State.onConfigured_usable hs _

/-- Settles O52: each branch is a class of characters, and `CHAR` is the row of that class. -/
theorem charTakesItsBranch : Obligations.CharTakesItsBranch := by
  intro s x hs
  refine ⟨fun c hx => ?upper, fun c hfold hx => ?folded, fun hupper hlower => ?other, _, exec_char_usable hs x⟩
  case upper => exact exec_char_of_letterOf (letterOf_of_upperIndex _ (indexFrom_eq_some.mpr hx))
  case folded =>
    refine exec_char_of_letterOf ?_
    rw [hfold]
    exact letterOf_of_lowerIndex (indexFrom_eq_some.mpr hx)
  case other =>
    refine exec_char_of_letterOf_eq_none (letterOf_eq_none.mpr ⟨indexFrom_eq_none.mpr ?_, fun hfold => ?_⟩)
    · omega
    · exact indexFrom_eq_none.mpr fun hx => hlower ⟨hfold, by omega⟩

/-! ### Texts in turn -/

/-- The loop goes on where it stopped (R115). -/
theorem processLoop_append (s : State) (a b : List Char) :
    s.processLoop (a ++ b) =
      ((s.processLoop a).1 ++ ((s.processLoop a).2.processLoop b).1, ((s.processLoop a).2.processLoop b).2) := by
  induction a generalizing s with
  | nil => rfl
  | cons x a ih => simp [State.processLoop, ih]

/-- What an operation delivered before `PROCESS m` does not enter its result, and stands before it in the output. -/
theorem exec_process_delivered {s : State} (h : s.Usable) (o : List Char) (r : Result) (m : List Char) :
    exec (.process m) ((s.emitText o).withResult r) =
      .next (((s.processLoop m).2.emitText (o ++ (s.processLoop m).1)).withResult (.text (s.processLoop m).1)) := by
  have hdelivered : ((s.emitText o).withResult r).Usable := h
  rw [exec_process_usable hdelivered, processLoop_delivered, emitText_withResult, emitText_emitText,
    withResult_withResult]

/-- Settles O56: the loop over the joined text, with the outputs of the two operations joined. -/
theorem processConcatenates : Obligations.ProcessConcatenates := by
  intro s a b hs
  refine ⟨_, _, _, _, exec_process_usable hs a, rfl, exec_process_delivered (usable_processLoop hs a) _ _ b, rfl, ?_⟩
  rw [exec_process_usable hs, processLoop_append]
  rfl

/-- Settles O53: `CHAR` delivers the first turn of the loop, `PROCESS` of the rest the others. -/
theorem processTakesCharactersInOrder : Obligations.ProcessTakesCharactersInOrder := by
  refine fun s hs => ⟨?empty, fun x m => ?cons⟩
  case empty =>
    rw [exec_process_usable hs]
    simp [State.processLoop, State.emitText, State.withResult]
  case cons =>
    have hnext : (s.charNext x).Usable := usable_processLoop hs [x]
    exact ⟨_, _, _, _, exec_char_usable hs x, rfl, exec_process_delivered hnext _ _ m, rfl,
      exec_process_usable hs (x :: m)⟩

/-- Without a letter every turn of the loop copies its character and keeps the state (R113). -/
theorem processLoop_of_no_letter {s : State} {m : List Char} (h : ∀ x ∈ m, letterOf s.foldLowercase x = none) :
    s.processLoop m = (m, s) := by
  induction m with
  | nil => rfl
  | cons x m ih =>
    obtain ⟨hx, hm⟩ := List.forall_mem_cons.mp h
    rw [State.processLoop, charNext_of_other hx, charResult_of_other hx, ih hm]

/-- Settles O54: the loop gives the text and the state back. -/
theorem textWithoutLettersChangesNothing : Obligations.TextWithoutLettersChangesNothing := by
  intro s m hs hm
  rw [exec_process_usable hs, processLoop_of_no_letter hm]
  rfl

end Sys2Proof.Proofs
end

section
/-! SUPPORT. Proofs of the statements of 45_process.md: pass-through invariance (R114) and the symmetry guarantee on two
instances (R117). -/

namespace Sys2Proof.Proofs

open Sys2Proof Sys2Proof.Machine

/-! ### What the invariant gives a keypress -/

theorem keyed_involutive {s : State} (h : s.Inv) (hc : s.configured = true) : Function.Involutive s.keyed :=
  path_involutive (inv_stepAll h) (s.stepAll_configured.trans hc)

theorem keyed_ne_self {s : State} (h : s.Inv) (hc : s.configured = true) (c : Idx) : s.keyed c ≠ c :=
  path_ne_self (inv_stepAll h) (s.stepAll_configured.trans hc) c

/-- The invariant speaks of no position, so text processing keeps it. -/
theorem inv_charNext {s : State} (h : s.Inv) (x : Char) : (s.charNext x).Inv := by
  rw [s.charNext_frame]
  exact h

theorem inv_processLoop {s : State} (h : s.Inv) (m : List Char) : (s.processLoop m).2.Inv := by
  rw [s.processLoop_frame]
  exact h

/-! ### Pass-through invariance -/

/-- A letter comes out as a letter, any other character as itself. -/
theorem isSome_letterOf_charResult (s : State) (x : Char) :
    (letterOf s.foldLowercase (s.charResult x)).isSome = (letterOf s.foldLowercase x).isSome := by
  cases h : letterOf s.foldLowercase x with
  | none => rw [charResult_of_other h, h]
  | some c => rw [charResult_of_letter h, letterOf_letter, Option.isSome_some, Option.isSome_some]

theorem processLoop_length (s : State) (m : List Char) : (s.processLoop m).1.length = m.length := by
  induction m generalizing s with
  | nil => rfl
  | cons x m ih => exact congrArg Nat.succ (ih _)

/-- Each character is answered in its place, in the state the characters before it leave. -/
theorem processLoop_getElem? (s : State) (m : List Char) (k : Nat) :
    (s.processLoop m).1[k]? = m[k]?.map (s.processLoop (m.take k)).2.charResult := by
  induction m generalizing s k with
  | nil => rfl
  | cons x m ih =>
    cases k with
    | zero => rfl
    | succ k => exact ih (s.charNext x) k

theorem letterCount_cons (fold : Bool) (x : Char) (m : List Char) :
    letterCount fold (x :: m) = letterCount fold m + (if (letterOf fold x).isSome then 1 else 0) := by
  cases h : letterOf fold x <;> simp [letterCount, h]

/-- The rotors move once per letter (R114 (d)). -/
theorem processLoop_state (s : State) (m : List Char) :
    (s.processLoop m).2 = (fun v : State => v.stepAll)^[letterCount s.foldLowercase m] s := by
  induction m generalizing s with
  | nil => rfl
  | cons x m ih =>
    rw [State.processLoop, ih, State.charNext_foldLowercase, letterCount_cons]
    cases h : letterOf s.foldLowercase x with
    | none => rw [charNext_of_other h]; rfl
    | some c => rw [charNext_of_letter h]; rfl

/-- Without its non-letters a text gives the output without its non-letters, and the same state (R114 (e)). -/
theorem processLoop_filter (s : State) (m : List Char) :
    s.processLoop (m.filter fun x => (letterOf s.foldLowercase x).isSome) =
      ((s.processLoop m).1.filter fun x => (letterOf s.foldLowercase x).isSome, (s.processLoop m).2) := by
  induction m generalizing s with
  | nil => rfl
  | cons x m ih =>
    have hrest := ih (s.charNext x)
    rw [State.charNext_foldLowercase] at hrest
    simp only [State.processLoop, List.filter_cons, isSome_letterOf_charResult]
    cases h : letterOf s.foldLowercase x with
    | none => rw [charNext_of_other h] at hrest ⊢; exact hrest
    | some c => simp [State.processLoop, hrest]

/-- Settles O55: the clauses about places read each output character in its own state, which meets the invariant. -/
theorem passThroughInvariance : Obligations.PassThroughInvariance := by
  intro s m h hc
  have hs := usable_of_inv h hc
  have hpos := congrArg State.pos (processLoop_state s m)
  refine ⟨_, _, exec_process_usable hs m, rfl, processLoop_length s m, fun k x hx hother => ?other,
    fun k x c hx hletter => ?letter, hpos, _, exec_process_usable hs _, ?filtered⟩
  case other =>
    rw [← s.processLoop_foldLowercase (m.take k)] at hother
    rw [processLoop_getElem?, hx, Option.map_some, charResult_of_other hother]
  case letter =>
    rw [← s.processLoop_foldLowercase (m.take k)] at hletter
    refine ⟨(s.processLoop (m.take k)).2.keyed c, ?_, ?_⟩
    · rw [processLoop_getElem?, hx, Option.map_some, charResult_of_letter hletter]
    · exact keyed_ne_self (inv_processLoop h _) ((s.processLoop_configured _).trans hc) c
  case filtered => rw [processLoop_filter]; rfl

/-! ### A text with its letters in uppercase -/

/-- The uppercase letter a character keys, or the character itself: one character of `foldText`. -/
def foldChar (fold : Bool) (x : Char) : Char := ((letterOf fold x).map letter).getD x

theorem foldText_eq_map (fold : Bool) (m : List Char) : foldText fold m = m.map (foldChar fold) := by
  refine List.map_congr_left fun x _ => ?_
  unfold foldChar
  cases letterOf fold x <;> rfl

theorem foldText_eq_self_iff {fold : Bool} {m : List Char} : foldText fold m = m ↔ ∀ x ∈ m, foldChar fold x = x := by
  simpa [foldText_eq_map] using List.map_inj_left (l := m) (f := foldChar fold) (g := id)

theorem foldChar_of_upperIndex (fold : Bool) {x : Char} {c : Idx} (h : upperIndex x = some c) :
    foldChar fold x = x := by
  simp [foldChar, eq_letter_of_upperIndex h]

theorem foldChar_of_letterOf_eq_none {fold : Bool} {x : Char} (h : letterOf fold x = none) : foldChar fold x = x := by
  simp [foldChar, h]

/-- With folding on exactly the lowercase letters change. -/
theorem foldChar_true_eq_self_iff {x : Char} : foldChar true x = x ↔ lowerIndex x = none := by
  cases hl : lowerIndex x with
  | none =>
    obtain ⟨c, hu⟩ | ⟨-, c, hl'⟩ | ho := char_class true x
    · simp [foldChar_of_upperIndex true hu]
    · simp [hl] at hl'
    · simp [foldChar_of_letterOf_eq_none ho]
  | some c =>
    have hfold : foldChar true x = letter c := by simp [foldChar, letterOf_of_lowerIndex hl]
    have hne : letter c ≠ x := by
      rintro rfl
      simpa using upperIndex_eq_none_of_lowerIndex hl
    simp [hfold, hne]

theorem foldChar_false (x : Char) : foldChar false x = x := by
  obtain ⟨c, hu⟩ | ⟨hfold, -⟩ | ho := char_class false x
  · exact foldChar_of_upperIndex false hu
  · cases hfold
  · exact foldChar_of_letterOf_eq_none ho

/-! ### The symmetry guarantee -/

/-- The output character is of its input's class, so it moves the rotors alike. -/
theorem charNext_charResult (s : State) (x : Char) : s.charNext (s.charResult x) = s.charNext x := by
  cases h : letterOf s.foldLowercase x with
  | none => rw [charResult_of_other h]
  | some c => rw [charResult_of_letter h, charNext_of_letter h, charNext_of_letter (letterOf_letter _ _)]

/-- Keying the output letter at the same positions undoes the keypress (R103). -/
theorem charResult_charResult {s : State} (h : s.Inv) (hc : s.configured = true) (x : Char) :
    s.charResult (s.charResult x) = foldChar s.foldLowercase x := by
  unfold foldChar
  cases hx : letterOf s.foldLowercase x with
  | none => rw [charResult_of_other hx, charResult_of_other hx]; rfl
  | some c =>
    rw [charResult_of_letter hx, charResult_of_letter (letterOf_letter _ _), keyed_involutive h hc]
    rfl

/-- From one starting state the loop undoes itself, up to the case of the letters (R117). -/
theorem processLoop_processLoop {s : State} (h : s.Inv) (hc : s.configured = true) (m : List Char) :
    (s.processLoop (s.processLoop m).1).1 = foldText s.foldLowercase m := by
  rw [foldText_eq_map]
  induction m generalizing s with
  | nil => rfl
  | cons x m ih =>
    have hrest := ih (inv_charNext h x) ((s.charNext_configured x).trans hc)
    rw [State.charNext_foldLowercase] at hrest
    simp only [State.processLoop, charNext_charResult, charResult_charResult h hc, hrest, List.map_cons]

/-- A known identifier names its own catalog entry (R31). -/
theorem getElem?_catalogEntry {catalog : List RotorType} {e : Int} (h : 0 ≤ e ∧ e < (catalog.length : Int)) :
    catalog[e.toNat]? = some (catalogEntry catalog e.toNat) := by
  have hlt : e.toNat < catalog.length := by omega
  simp [catalogEntry, hlt]

theorem get_mem_toList {α : Type} (p : PerSlot α) (r : Slot) : p.get r ∈ p.toList := by
  cases r <;> simp [PerSlot.get, PerSlot.toList]

/-- V3 (R86) leaves a known identifier in each slot. -/
theorem rot_get_known {n : Nat} {k : Configuration} (h : rotorsOk n k = true) (r : Slot) :
    0 ≤ k.rot.get r ∧ k.rot.get r < (n : Int) := by
  simpa using List.all_eq_true.mp h _ (get_mem_toList k.rot r)

/-- A successful construction meets the invariant (R21, R87). -/
theorem inv_install {s : State} {k : Configuration} (hp : s.parametersOk = true)
    (hvalid : validate s.catalog.length k = .noError) : (s.install k).Inv := by
  obtain ⟨-, -, hrotors, -⟩ := validate_eq_noError.mp hvalid
  have hplug : isInvolution (plugTable k.pairs) = true :=
    isInvolution_iff.mpr (plugTable_involutive (wiredIndices_nodup_of_valid hvalid))
  refine ⟨hp, fun _ => ⟨rfl, hplug, fun r => ?_⟩⟩
  have hentry := getElem?_catalogEntry (rot_get_known hrotors r)
  cases r <;> exact hentry

/-- A legal `CONFIG` leaves a configured instance of the same hardware whose registers depend on nothing else (R87). -/
theorem exists_exec_config_inv {s u : State} {k : Configuration} (hp : s.parametersOk = true) (hsame : s.SameHardware u)
    (hvalid : validate s.catalog.length k = .noError) :
    ∃ t, exec (.config k) u = .next t ∧ t.Inv ∧ t.configured = true ∧ s.SameHardware t ∧
      t.bank = configuredBank s.catalog k := by
  have ⟨hcatalog, hreflector, _⟩ := hsame
  rw [State.parametersOk, hcatalog, hreflector] at hp
  rw [hcatalog] at hvalid ⊢
  exact ⟨_, exec_config_of_valid hp hvalid, inv_install hp hvalid, rfl, hsame, rfl⟩

/-- Instances of the same hardware with equal registers encipher alike. -/
theorem sameCipher_of_bank_eq {u s t : State} (hs : u.SameHardware s) (ht : u.SameHardware t) (hbank : s.bank = t.bank) :
    SameCipher s t := by
  obtain ⟨-, hreflector, hfold⟩ := hs
  obtain ⟨-, hreflector', hfold'⟩ := ht
  exact {
    foldLowercase := hfold.symm.trans hfold'
    reflector := hreflector.symm.trans hreflector'
    wiring := congrArg Bank.wiring hbank
    notch := congrArg Bank.notch hbank
    pos := congrArg Bank.pos hbank
    ring := congrArg Bank.ring hbank
    plug := congrArg Bank.plug hbank }

/-- Settles O59: the second instance starts where the first did, and there the loop undoes itself. -/
theorem roundTripOnTwoInstances : Obligations.RoundTripOnTwoInstances := by
  refine ⟨fun s₁ s₂ k m hp hsame hvalid => ?roundTrip, fun m => ?folded, fun m => ?unfolded⟩
  case folded => simp only [foldText_eq_self_iff, foldChar_true_eq_self_iff]
  case unfolded => exact foldText_eq_self_iff.mpr fun x _ => foldChar_false x
  case roundTrip =>
    obtain ⟨t₁, ht₁, hinv₁, hc₁, hsame₁, hbank₁⟩ := exists_exec_config_inv hp ⟨rfl, rfl, rfl⟩ hvalid
    obtain ⟨t₂, ht₂, hinv₂, hc₂, hsame₂, hbank₂⟩ := exists_exec_config_inv hp hsame hvalid
    have halike : SameCipher t₂ t₁ := sameCipher_of_bank_eq hsame₂ hsame₁ (hbank₂.trans hbank₁.symm)
    obtain ⟨htext, -⟩ := halike.processLoop (t₁.processLoop m).1
    obtain ⟨-, -, hfold⟩ := hsame₁
    refine ⟨t₁, _, t₂, _, _, ht₁, exec_process_usable (usable_of_inv hinv₁ hc₁) m, rfl, ht₂,
      exec_process_usable (usable_of_inv hinv₂ hc₂) _, ?_⟩
    rw [State.withResult_result, htext, processLoop_processLoop hinv₁ hc₁, hfold]

end Sys2Proof.Proofs
end

section
/-! SUPPORT. Proofs of the statements of 60_exceptions.md: the commands an unconfigured instance refuses (R130), and the
state a failed `CONFIG` leaves (R124). -/

namespace Sys2Proof.Proofs

open Sys2Proof Sys2Proof.Machine

/-! ### Commands on an unconfigured instance -/

/-- Over well-formed tables nothing comes before the refusal of R130. -/
theorem obstacle_of_unconfigured {s : State} (hp : s.parametersOk = true) (hc : s.configured = false) :
    s.obstacle = some .unconfigured := by
  simp [State.obstacle, hp, hc]

/-- With folding on or off, a lowercase letter needs a configured instance (R53, R130). -/
theorem exec_keyLower_of_obstacle {s : State} {r : Refusal} (h : s.obstacle = some r) (c : Idx) :
    exec (.keyLower c) s = .refused r := by
  cases hf : s.foldLowercase with
  | true =>
    rw [exec_keyLower_of_fold hf]
    exact State.onConfigured_refused h
  | false =>
    rw [exec_keyLower_of_not_fold hf]
    exact State.onConfigured_refused h

/-- Settles O38: each of these commands asks for a configured instance before anything else. -/
theorem unconfiguredCommandsAreRefused : Obligations.UnconfiguredCommandsAreRefused := by
  intro s c x m hp hc
  have hobstacle := obstacle_of_unconfigured hp hc
  have hrefused (next : State) : s.onConfigured next = .refused .unconfigured :=
    State.onConfigured_refused hobstacle
  exact ⟨hrefused _, hrefused _, exec_keyLower_of_obstacle hobstacle c, hrefused _, hrefused _, hrefused _, hrefused _,
    hrefused _⟩

/-! ### The state a failed `CONFIG` leaves -/

/-- Over well-formed tables an illegal `CONFIG` takes the exception and answers its cause (R124, R58). -/
theorem exec_config_of_invalid {s : State} {k : Configuration} (hp : s.parametersOk = true)
    (hinvalid : validate s.catalog.length k ≠ .noError) :
    exec (.config k) s =
      .next (((s.raiseConfigError (validate s.catalog.length k)).respond
        [(validate s.catalog.length k).code]).withResult (.status (validate s.catalog.length k))) := by
  obtain ⟨hvalid, -⟩ | ⟨-, hconstruct⟩ := s.construct_cases k
  · exact absurd hvalid hinvalid
  · simp [exec, execConfig, hp, hconstruct]

/-- Settles O32: the exception writes the two status registers, and the instance it leaves is unconfigured (O38). -/
theorem failedConstructionLeavesNothingUsable : Obligations.FailedConstructionLeavesNothingUsable := by
  intro s k hp hinvalid
  refine ⟨_, exec_config_of_invalid hp hinvalid, rfl, rfl, rfl, rfl, rfl, rfl, ⟨rfl, rfl, rfl⟩, fun c x m => ?_⟩
  exact unconfiguredCommandsAreRefused _ c x m hp rfl

end Sys2Proof.Proofs
end

section
/-! SUPPORT. What a command other than `CONFIG` can write (R22), said once for all of them, and what a step can do. -/

namespace Sys2Proof.Proofs

open Sys2Proof Sys2Proof.Machine

/-! ### Deliveries -/

/-- What a command other than `CONFIG` can write: the positions, what it appends to the host's streams, its result. -/
structure Delivery where
  pos : PerSlot Idx
  text : List Char := []
  bytes : List Byte := []
  result : Result

/-- The state after a delivery. -/
def deliver (s : State) (d : Delivery) : State :=
  { s with pos := d.pos, output := s.output ++ d.text, response := s.response ++ d.bytes, result := d.result }

/-- One character of text, at the positions `p`. -/
def Delivery.ofChar (p : PerSlot Idx) (y : Char) : Delivery := { pos := p, text := [y], result := .character y }

/-- What each command delivers. A reserved byte has no meaning, and `CONFIG` writes more than a delivery holds. -/
def delivery (s : State) : Instr → Delivery
  | .rotorForward r v => { pos := s.pos, result := .index (s.forward r v) }
  | .rotorBackward r v => { pos := s.pos, result := .index (s.backward r v) }
  | .rotorStep r => { pos := s.pos.set r (nextPosition (s.pos.get r)), result := .none }
  | .rotorAtNotch r => { pos := s.pos, result := .flag (s.atNotch r) }
  | .plugSwap v => { pos := s.pos, result := .index (s.plugSwap v) }
  | .reflApply v => { pos := s.pos, result := .index (s.reflect v) }
  | .config _ => { pos := s.pos, result := .none }
  | .stepAll => { pos := s.stepAll.pos, result := .none }
  | .path v => { pos := s.pos, result := .index (s.path v) }
  | .key c => { pos := s.stepAll.pos, bytes := [idxByte (s.keyed c)], result := .index (s.keyed c) }
  | .keyUpper c => .ofChar s.stepAll.pos (letter (s.keyed c))
  | .keyLower c =>
    if s.foldLowercase then .ofChar s.stepAll.pos (letter (s.keyed c)) else .ofChar s.pos (lowerLetter c)
  | .pass => { pos := s.pos, result := .none }
  | .passChar x => .ofChar s.pos x
  | .char x => .ofChar (s.charNext x).pos (s.charResult x)
  | .process t => { pos := (s.processLoop t).2.pos, text := (s.processLoop t).1, result := .text (s.processLoop t).1 }
  | .rdpos => { pos := s.pos, bytes := s.pos.toList.map idxByte, result := .positions s.pos }
  | .encrypt k t => { pos := s.pos, result := s.onNewInstance k t }
  | .decrypt k t => { pos := s.pos, result := s.onNewInstance k t }
  | .reserved _ => { pos := s.pos, result := .none }

/-- The commands that read this instance's registers, and so need it configured (R130). -/
def readsRegisters : Instr → Bool
  | .config _ | .encrypt _ _ | .decrypt _ _ | .reserved _ => false
  | _ => true

/-- An operation's writes, when all it does to the registers is to move the rotors, are a delivery. -/
theorem deliver_of_frame {s u : State} (h : u = s.withPos u.pos) (t : List Char) (bs : List Byte) (r : Result) :
    ((u.emitText t).respond bs).withResult r = deliver s ⟨u.pos, t, bs, r⟩ := by
  rw [h]; rfl

@[simp] theorem emitText_nil (s : State) : s.emitText [] = s := by simp [State.emitText]

@[simp] theorem respond_nil (s : State) : s.respond [] = s := by simp [State.respond]

theorem withResult_eq_deliver {s u : State} (h : u = s.withPos u.pos) (r : Result) :
    u.withResult r = deliver s { pos := u.pos, result := r } := by
  simpa using deliver_of_frame h [] [] r

theorem emitText_withResult_eq_deliver {s u : State} (h : u = s.withPos u.pos) (t : List Char) (r : Result) :
    (u.emitText t).withResult r = deliver s { pos := u.pos, text := t, result := r } := by
  simpa using deliver_of_frame h t [] r

theorem respond_withResult_eq_deliver {s u : State} (h : u = s.withPos u.pos) (bs : List Byte) (r : Result) :
    (u.respond bs).withResult r = deliver s { pos := u.pos, bytes := bs, result := r } := by
  simpa using deliver_of_frame h [] bs r

/-! ### The host's own streams are no part of an instance -/

section

variable {s t : State} (bs bs' : List Byte) (r r' : Result)

theorem inv_respond_withResult (h : s.Inv) : ((s.respond bs).withResult r).Inv := h

theorem sameHardware_respond_withResult (h : s.SameHardware t) : s.SameHardware ((t.respond bs).withResult r) := h

theorem sameMachine_respond_withResult (h : s.SameMachine t) :
    ((s.respond bs).withResult r).SameMachine ((t.respond bs').withResult r') := h

end

/-! ### The meanings as deliveries -/

/-- A command that reads the registers asks for a configured instance and makes its delivery (R130, R22). -/
theorem exec_of_readsRegisters {i : Instr} (h : readsRegisters i = true) (s : State) :
    exec i s = s.onConfigured (deliver s (delivery s i)) := by
  have answer (r : Result) := congrArg s.onConfigured (withResult_eq_deliver (s := s) (u := s) rfl r)
  cases i with
  | rotorForward r v => exact answer _
  | rotorBackward r v => exact answer _
  | rotorStep r => exact congrArg s.onConfigured (withResult_eq_deliver rfl _)
  | rotorAtNotch r => exact answer _
  | plugSwap v => exact answer _
  | reflApply v => exact answer _
  | stepAll => exact congrArg s.onConfigured (withResult_eq_deliver s.stepAll_frame _)
  | path v => exact answer _
  | key c => exact congrArg s.onConfigured (respond_withResult_eq_deliver s.stepAll_frame _ _)
  | keyUpper c => exact congrArg s.onConfigured (emitText_withResult_eq_deliver s.stepAll_frame _ _)
  | keyLower c =>
    cases hf : s.foldLowercase with
    | true =>
      rw [exec_keyLower_of_fold hf, delivery, hf]
      exact congrArg s.onConfigured (emitText_withResult_eq_deliver s.stepAll_frame _ _)
    | false =>
      rw [exec_keyLower_of_not_fold hf, delivery, hf]
      exact congrArg s.onConfigured (emitText_withResult_eq_deliver rfl _ _)
  | pass => exact answer _
  | passChar x => exact congrArg s.onConfigured (emitText_withResult_eq_deliver rfl _ _)
  | char x => exact congrArg s.onConfigured (emitText_withResult_eq_deliver (s.charNext_frame x) _ _)
  | process t => exact congrArg s.onConfigured (emitText_withResult_eq_deliver (s.processLoop_frame t) _ _)
  | rdpos => exact congrArg s.onConfigured (respond_withResult_eq_deliver rfl _ _)
  | config _ | encrypt _ _ | decrypt _ _ | reserved _ => cases h

/-- Over well-formed tables a pseudo-operation makes its delivery, configured or not (R63; log entry 11). -/
theorem exec_pseudo {s : State} (hp : s.parametersOk = true) (k : Configuration) (t : List Char) :
    exec (.encrypt k t) s = .next (s.withResult (s.onNewInstance k t)) ∧
      exec (.decrypt k t) s = .next (s.withResult (s.onNewInstance k t)) := by
  simp [exec, execEncrypt, execDecrypt, hp]

theorem exec_config {s : State} (hp : s.parametersOk = true) (k : Configuration) :
    exec (.config k) s =
      .next (((s.construct k).respond [(s.construct k).err.code]).withResult (.status (s.construct k).err)) := by
  simp [exec, execConfig, hp]

/-- Ill-formed table parameters stop every command (R45); a reserved byte is refused as what it is (R59). -/
theorem exec_of_illFormed {s : State} (hp : s.parametersOk = false) {i : Instr} (hi : ∀ op, i ≠ .reserved op) :
    exec i s = .refused .illFormedTable := by
  cases hr : readsRegisters i with
  | true =>
    rw [exec_of_readsRegisters hr]
    exact State.onConfigured_refused (by simp [State.obstacle, hp])
  | false =>
    cases i with
    | config k => simp [exec, execConfig, hp]
    | encrypt k t => simp [exec, execEncrypt, hp]
    | decrypt k t => simp [exec, execDecrypt, hp]
    | reserved op => exact absurd rfl (hi op)
    | _ => cases hr

theorem exec_reserved (op : Byte) (s : State) : exec (.reserved op) s = .refused .reservedOpcode := rfl

theorem parametersOk_of_exec_next {i : Instr} {s t : State} (h : exec i s = .next t) : s.parametersOk = true := by
  by_contra hp
  rw [Bool.not_eq_true] at hp
  by_cases hi : ∃ op, i = .reserved op
  · obtain ⟨op, rfl⟩ := hi
    cases h
  · rw [exec_of_illFormed hp (not_exists.mp hi)] at h
    cases h

/-- What any command but `CONFIG` leaves, where it completes (R22). -/
theorem eq_deliver_of_exec_next {i : Instr} {s t : State} (h : exec i s = .next t) (hi : ∀ k, i ≠ .config k) :
    t = deliver s (delivery s i) := by
  cases hr : readsRegisters i with
  | true =>
    rw [exec_of_readsRegisters hr] at h
    obtain ⟨-, ht⟩ := State.onConfigured_next h
    exact ht
  | false =>
    cases i with
    | config k => exact absurd rfl (hi k)
    | encrypt k m =>
      obtain ⟨hencrypt, -⟩ := exec_pseudo (parametersOk_of_exec_next h) k m
      injection h.symm.trans hencrypt with ht
      exact ht.trans (withResult_eq_deliver rfl _)
    | decrypt k m =>
      obtain ⟨-, hdecrypt⟩ := exec_pseudo (parametersOk_of_exec_next h) k m
      injection h.symm.trans hdecrypt with ht
      exact ht.trans (withResult_eq_deliver rfl _)
    | reserved op => cases h
    | _ => cases hr

/-- What `CONFIG` leaves, where it completes: the construction's state and its answer (R85, R58). -/
theorem exec_config_next {k : Configuration} {s t : State} (h : exec (.config k) s = .next t) :
    s.parametersOk = true ∧
      t = ((s.construct k).respond [(s.construct k).err.code]).withResult (.status (s.construct k).err) := by
  have hp := parametersOk_of_exec_next h
  injection h.symm.trans (exec_config hp k) with ht
  exact ⟨hp, ht⟩

/-- Only the operations that move rotors deliver other positions (R22). -/
theorem delivery_pos {i : Instr} (h : movesRotors i = false) (s : State) : (delivery s i).pos = s.pos := by
  revert h
  cases i <;> simp [movesRotors, delivery, Delivery.ofChar]

/-! ### What a step can do -/

section

variable {s : State} {q : List Request}

theorem step_idle (h : s.input = []) : step s = .next s := by
  simp [step, State.fetch, h]

theorem step_bytes {bs rest : List Byte} {i : Instr} (h : s.input = .bytes bs :: q)
    (hd : decode bs = .ok (i, rest)) : step s = exec i (s.withInput (.bytes rest :: q)) := by
  simp [step, State.fetch, State.fetchBytes, h, hd]

theorem step_no_bytes {bs : List Byte} (h : s.input = .bytes bs :: q) (hd : decode bs = .error .noCommand) :
    step s = .next (s.withInput q) := by
  simp [step, State.fetch, State.fetchBytes, h, hd]

theorem step_truncated {bs : List Byte} (h : s.input = .bytes bs :: q)
    (hd : decode bs = .error .truncatedConfig) : step s = .refused .truncatedConfig := by
  simp [step, State.fetch, State.fetchBytes, h, hd]

theorem step_text {x : Char} {t : List Char} (h : s.input = .text (x :: t) :: q) :
    step s = exec (decodeChar s.foldLowercase x) (s.withInput (.text t :: q)) := by
  simp [step, State.fetch, State.fetchText, h]

theorem step_no_text (h : s.input = .text [] :: q) : step s = .next (s.withInput q) := by
  simp [step, State.fetch, State.fetchText, h]

theorem step_command {i : Instr} (h : s.input = .command i :: q) (hi : i.hostIssuable = true) :
    step s = exec i (s.withInput q) := by
  simp [step, State.fetch, State.fetchCommand, h, hi]

theorem step_internal {i : Instr} (h : s.input = .command i :: q) (hi : i.hostIssuable = false) :
    step s = .refused .internalOperation := by
  simp [step, State.fetch, State.fetchCommand, h, hi]

theorem step_hardwareReset (h : s.input = .hardwareReset :: q) : step s = .next (s.withInput q).hardwareReset := by
  simp [step, State.fetch, h]

end

/-- A step that completes drops words from the input at most, resets the hardware, or executes a command. -/
theorem step_next_cases {s t : State} (h : step s = .next t) :
    ∃ q, t = s.withInput q ∨ t = (s.withInput q).hardwareReset ∨ ∃ i, exec i (s.withInput q) = .next t := by
  cases hin : s.input with
  | nil =>
    injection h.symm.trans (step_idle hin) with ht
    exact ⟨s.input, .inl ht⟩
  | cons request q =>
    cases request with
    | bytes bs =>
      cases hd : decode bs with
      | ok p => exact ⟨_, .inr (.inr ⟨p.1, (step_bytes hin hd).symm.trans h⟩)⟩
      | error e =>
        cases e with
        | noCommand =>
          injection h.symm.trans (step_no_bytes hin hd) with ht
          exact ⟨q, .inl ht⟩
        | truncatedConfig => cases h.symm.trans (step_truncated hin hd)
    | text m =>
      cases m with
      | nil =>
        injection h.symm.trans (step_no_text hin) with ht
        exact ⟨q, .inl ht⟩
      | cons x m => exact ⟨_, .inr (.inr ⟨_, (step_text hin).symm.trans h⟩)⟩
    | command i =>
      cases hi : i.hostIssuable with
      | true => exact ⟨q, .inr (.inr ⟨i, (step_command hin hi).symm.trans h⟩)⟩
      | false => cases h.symm.trans (step_internal hin hi)
    | hardwareReset =>
      injection h.symm.trans (step_hardwareReset hin) with ht
      exact ⟨q, .inr (.inl ht)⟩

end Sys2Proof.Proofs
end

section
/-! SUPPORT. Proofs of the statements of 10_state.md and 20_memory.md: reset, the invariant, what no step changes, and
several instances side by side. -/

namespace Sys2Proof.Proofs

open Sys2Proof Sys2Proof.Machine

/-! ### The invariant (R21) -/

theorem inv_construct {s : State} (hp : s.parametersOk = true) (k : Configuration) : (s.construct k).Inv := by
  obtain ⟨hvalid, hinstall⟩ | ⟨-, hraise⟩ := s.construct_cases k
  · rw [hinstall]
    exact inv_install hp hvalid
  · rw [hraise]
    exact ⟨hp, nofun⟩

/-- A delivery writes nothing the invariant speaks of; a construction establishes it anew. -/
theorem inv_exec {i : Instr} {s t : State} (hs : s.Inv) (h : exec i s = .next t) : t.Inv := by
  by_cases hi : ∃ k, i = .config k
  · obtain ⟨k, rfl⟩ := hi
    obtain ⟨hp, rfl⟩ := exec_config_next h
    exact inv_respond_withResult _ _ (inv_construct hp k)
  · rw [eq_deliver_of_exec_next h (not_exists.mp hi)]
    exact hs

/-- Settles O6: by what a step can do; the input is no part of the invariant, and reset unconfigures. -/
theorem stepKeepsTheInvariant : Obligations.StepKeepsTheInvariant := by
  intro s t hs h
  obtain ⟨q, rfl | rfl | ⟨i, hexec⟩⟩ := step_next_cases h
  · exact hs
  · obtain ⟨hp, -⟩ := hs
    exact ⟨hp, nofun⟩
  · have hq : (s.withInput q).Inv := hs
    exact inv_exec hq hexec

/-- Settles O7: each slot holds a catalog entry, a bijection by R45; the involutions are the invariant's own. -/
theorem invariantOfAConfiguredInstance : Obligations.InvariantOfAConfiguredInstance := by
  intro s hs hc
  have husable := usable_of_inv hs hc
  refine ⟨fun r => ⟨wiring_bijective_of_usable husable r, ?_⟩, plugSwap_involutive_of_inv hs hc, ?_, husable⟩
  · obtain ⟨-, hconfigured⟩ := hs
    obtain ⟨-, -, hslots⟩ := hconfigured hc
    obtain ⟨hlt, -⟩ := List.getElem?_eq_some_iff.mp (hslots r)
    exact hlt
  · obtain ⟨hp, -⟩ := hs
    exact reflect_laws hp

/-! ### What no command changes -/

/-- `CONFIG` keeps the constants and the host's streams, whether it succeeds or fails (R85, R124). -/
theorem construct_frame (s : State) (k : Configuration) :
    s.SameHardware (s.construct k) ∧ (s.construct k).input = s.input ∧ (s.construct k).output = s.output ∧
      (s.construct k).response = s.response := by
  obtain ⟨-, h⟩ | ⟨-, h⟩ := s.construct_cases k <;> rw [h] <;> exact ⟨⟨rfl, rfl, rfl⟩, rfl, rfl, rfl⟩

theorem sameHardware_of_exec_next {i : Instr} {s t : State} (h : exec i s = .next t) : s.SameHardware t := by
  by_cases hi : ∃ k, i = .config k
  · obtain ⟨k, rfl⟩ := hi
    obtain ⟨-, rfl⟩ := exec_config_next h
    obtain ⟨hsame, -⟩ := construct_frame s k
    exact sameHardware_respond_withResult _ _ hsame
  · rw [eq_deliver_of_exec_next h (not_exists.mp hi)]
    exact ⟨rfl, rfl, rfl⟩

/-- Settles O8: neither taking words from the input, nor reset, nor a command writes the constants. -/
theorem constantsNeverChange : Obligations.ConstantsNeverChange := by
  intro s t h
  obtain ⟨q, rfl | rfl | ⟨i, hexec⟩⟩ := step_next_cases h
  · exact ⟨rfl, rfl, rfl⟩
  · exact ⟨rfl, rfl, rfl⟩
  · have hsame : (s.withInput q).SameHardware t := sameHardware_of_exec_next hexec
    exact hsame

/-- Settles O9: every command but `CONFIG` makes a delivery. -/
theorem onlyPositionsMoveAfterConstruction : Obligations.OnlyPositionsMoveAfterConstruction := by
  intro i s t h hi
  rw [eq_deliver_of_exec_next h hi]
  exact ⟨rfl, fun hstill => delivery_pos hstill s⟩

/-- Settles O10: each command checks the table parameters before anything else. -/
theorem illFormedTablesAreRefused : Obligations.IllFormedTablesAreRefused :=
  fun _ _ hp hi => exec_of_illFormed hp hi

/-! ### Instances side by side (R42) -/

/-- Executing at a place means: there is an instance, its command completes, and its state alone is replaced. -/
theorem execAt_eq_next {k : Nat} {i : Instr} {ms ms' : List State} :
    Instances.execAt k i ms = .next ms' ↔ ∃ s t, ms[k]? = some s ∧ exec i s = .next t ∧ ms' = ms.set k t := by
  unfold Instances.execAt
  cases hs : ms[k]? with
  | none => simp
  | some s => cases ht : exec i s <;> simp [ht, eq_comm]

/-- Settles O11: each command reads and replaces its own place, and two places are written in either order. -/
theorem instancesAreIndependent : Obligations.InstancesAreIndependent := by
  intro j k a b ms m₁ m₂ hjk ha hb
  obtain ⟨s, s', hs, hexec, rfl⟩ := execAt_eq_next.mp ha
  obtain ⟨t, t', ht, hexec', rfl⟩ := execAt_eq_next.mp hb
  have hk : (ms.set j s')[k]? = ms[k]? := List.getElem?_set_ne hjk
  have hj : (ms.set k t')[j]? = ms[j]? := List.getElem?_set_ne hjk.symm
  refine ⟨hk, ms.set k t', ?_, ?_⟩
  · exact execAt_eq_next.mpr ⟨t, t', hk.symm.trans ht, hexec', rfl⟩
  · exact execAt_eq_next.mpr ⟨s, s', hj.trans hs, hexec, List.set_comm _ _ hjk⟩

/-! ### Reset and the default tables -/

/-- Settles O3: the fields of the state after reset, and what the event does to the state it meets. -/
theorem hardwareResetUnconfigures : Obligations.HardwareResetUnconfigures :=
  ⟨⟨rfl, rfl, rfl, rfl⟩, fun _ _ h => ⟨_, step_hardwareReset h, rfl, rfl, ⟨rfl, rfl, rfl⟩, rfl⟩⟩

theorem catalogOk_defaultCatalog : catalogOk Config.defaultCatalog = true := by
  have hI : isBijection Config.rotorI.wiring = true := by decide
  have hII : isBijection Config.rotorII.wiring = true := by decide
  have hIII : isBijection Config.rotorIII.wiring = true := by decide
  simp [catalogOk, Config.defaultCatalog, hI, hII, hIII]

theorem reflectorOk_defaultReflector : reflectorOk Config.defaultReflector = true := by decide

theorem parametersOk_reset : State.reset.parametersOk = true :=
  Bool.and_eq_true_iff.mpr ⟨catalogOk_defaultCatalog, reflectorOk_defaultReflector⟩

/-- Settles O4: the checks of R45, computed on the default tables, and what they mean. -/
theorem defaultTablesAreWellFormed : Obligations.DefaultTablesAreWellFormed := by
  obtain ⟨-, hwirings⟩ := Bool.and_eq_true_iff.mp catalogOk_defaultCatalog
  refine ⟨fun e he => ?_, reflect_laws parametersOk_reset, parametersOk_reset⟩
  exact isBijection_iff.mp (List.all_eq_true.mp hwirings e he)

/-- Settles O5: the default tables meet their preconditions, and nothing is configured. -/
theorem resetMeetsTheInvariant : Obligations.ResetMeetsTheInvariant :=
  ⟨parametersOk_reset, nofun⟩

end Sys2Proof.Proofs
end

section
/-! SUPPORT. Proofs of the statements of 30_encoding.md about bytes: the format H decoder and encoder (R56, R57, R59),
the length of a command (R64), and the command a step takes. -/

namespace Sys2Proof.Proofs

open Sys2Proof Sys2Proof.Machine

/-! ### Operand bytes (R57) -/

theorem fitsByte_iff {v : Int} : fitsByte v = true ↔ 0 ≤ v ∧ v < 256 := by
  simp [fitsByte]

theorem fitsByte_byteInt (b : Byte) : fitsByte (byteInt b) = true :=
  fitsByte_iff.mpr ⟨Int.natCast_nonneg _, Int.ofNat_lt.mpr b.isLt⟩

theorem intByte_byteInt (b : Byte) : intByte (byteInt b) = b := by
  simp [intByte, byteInt]

theorem byteInt_intByte {v : Int} (h : fitsByte v = true) : byteInt (intByte v) = v := by
  have hrange := fitsByte_iff.mp h
  simp only [byteInt, intByte, BitVec.toNat_ofInt]
  omega

/-! ### Plugboard pairs -/

/-- The bytes of the pairs, as `encodeConfig` writes them. -/
def pairBytes (pairs : List (Int × Int)) : List Byte := pairs.flatMap fun p => [intByte p.1, intByte p.2]

theorem length_pairBytes (ps : List (Int × Int)) : (pairBytes ps).length = 2 * ps.length := by
  simp [pairBytes, List.length_flatMap, Nat.mul_comm]

theorem takePairs_pairBytes {ps : List (Int × Int)} (h : ∀ p ∈ ps, fitsByte p.1 = true ∧ fitsByte p.2 = true)
    (rest : List Byte) : takePairs ps.length (pairBytes ps ++ rest) = some (ps, rest) := by
  induction ps with
  | nil => rfl
  | cons p ps ih =>
    obtain ⟨⟨hfst, hsnd⟩, hps⟩ := List.forall_mem_cons.mp h
    have hcons : pairBytes (p :: ps) ++ rest = intByte p.1 :: intByte p.2 :: (pairBytes ps ++ rest) := rfl
    rw [hcons, List.length_cons, takePairs, ih hps]
    simp only [byteInt_intByte hfst, byteInt_intByte hsnd]

/-- What `takePairs` reads is what it has been given, spelled in bytes. -/
theorem takePairs_eq_some {n : Nat} {bs rest : List Byte} {ps : List (Int × Int)}
    (h : takePairs n bs = some (ps, rest)) :
    ps.length = n ∧ (∀ p ∈ ps, fitsByte p.1 = true ∧ fitsByte p.2 = true) ∧ bs = pairBytes ps ++ rest := by
  induction n, bs using takePairs.induct generalizing ps rest with
  | case1 bs =>
    cases h
    exact ⟨rfl, by simp, rfl⟩
  | case2 n a b bs ps' rest' hrec ih =>
    rw [takePairs, hrec] at h
    cases h
    obtain ⟨hlength, hfits, hbytes⟩ := ih hrec
    refine ⟨congrArg Nat.succ hlength,
      List.forall_mem_cons.mpr ⟨⟨fitsByte_byteInt a, fitsByte_byteInt b⟩, hfits⟩, ?_⟩
    rw [hbytes]
    simp [pairBytes, intByte_byteInt]
  | case3 n a b bs hrec ih =>
    rw [takePairs, hrec] at h
    cases h
  | case4 n bs hshort =>
    rw [takePairs] at h
    · cases h
    · exact hshort

/-! ### The `CONFIG` command -/

theorem fitsFormatH_iff {k : Configuration} :
    k.fitsFormatH = true ↔ (∀ v ∈ k.rot.toList ++ k.pos0.toList ++ k.ring.toList, fitsByte v = true) ∧
      (∀ p ∈ k.pairs, fitsByte p.1 = true ∧ fitsByte p.2 = true) ∧ k.pairs.length < 256 := by
  simp only [Configuration.fitsFormatH, Bool.and_eq_true, List.all_eq_true, decide_eq_true_eq, and_assoc]

theorem toNat_pairCount {k : Configuration} (h : k.fitsFormatH = true) :
    (BitVec.ofNat 8 k.pairs.length).toNat = k.pairs.length := by
  obtain ⟨-, -, hlt⟩ := fitsFormatH_iff.mp h
  simp only [BitVec.toNat_ofNat]
  omega

theorem length_encodeConfig (k : Configuration) : (encodeConfig k).length = 11 + 2 * k.pairs.length := by
  have hlist : (encodeConfig k).length = 11 + (pairBytes k.pairs).length := by
    simp only [encodeConfig, PerSlot.toList, pairBytes, List.length_append, List.length_cons, List.length_map,
      List.length_nil]
    omega
  rw [hlist, length_pairBytes]

/-- A `CONFIG` command announces its own length, whatever follows it (R64). -/
theorem commandLength_encodeConfig_append {k : Configuration} (h : k.fitsFormatH = true) (rest : List Byte) :
    commandLength (encodeConfig k ++ rest) = 11 + 2 * k.pairs.length := by
  have hop : configRow.hits 0x02#8 = true := by decide
  simp [commandLength, encodeConfig, PerSlot.toList, hop, toNat_pairCount h]

theorem decodeConfig_encodeConfig {k : Configuration} (h : k.fitsFormatH = true) (rest : List Byte) :
    decodeConfig (encodeConfig k ++ rest).tail = .ok (.config k, rest) := by
  obtain ⟨hvalues, hpairs, -⟩ := fitsFormatH_iff.mp h
  have htake : takePairs (BitVec.ofNat 8 k.pairs.length).toNat (pairBytes k.pairs ++ rest) = some (k.pairs, rest) := by
    rw [toNat_pairCount h, takePairs_pairBytes hpairs]
  have hbytes : (encodeConfig k ++ rest).tail =
      (k.rot.toList ++ k.pos0.toList ++ k.ring.toList).map intByte ++
        BitVec.ofNat 8 k.pairs.length :: (pairBytes k.pairs ++ rest) := by
    simp [encodeConfig, pairBytes]
  have hread : ∀ v ∈ k.rot.toList ++ k.pos0.toList ++ k.ring.toList, byteInt (intByte v) = v :=
    fun v hv => byteInt_intByte (hvalues v hv)
  simp only [PerSlot.toList, List.cons_append, List.nil_append, List.forall_mem_cons] at hread
  simp only [hbytes, PerSlot.toList, List.cons_append, List.nil_append, List.map_cons, List.map_nil, decodeConfig,
    htake, hread]

/-- What the `CONFIG` payload can be: a whole command's, or one cut short (R59). -/
theorem decodeConfig_cases (bs : List Byte) :
    (∃ k rest, decodeConfig bs = .ok (.config k, rest) ∧ k.fitsFormatH = true ∧
        0x02#8 :: bs = encodeConfig k ++ rest) ∨
      decodeConfig bs = .error .truncatedConfig := by
  unfold decodeConfig
  split
  · rename_i r0 r1 r2 p0 p1 p2 g0 g1 g2 n bs
    cases htake : takePairs n.toNat bs with
    | none => exact .inr rfl
    | some taken =>
      obtain ⟨ps, rest⟩ := taken
      obtain ⟨hlength, hpairs, rfl⟩ := takePairs_eq_some htake
      have hlt : ps.length < 256 := hlength ▸ n.isLt
      refine .inl ⟨_, rest, rfl, fitsFormatH_iff.mpr ⟨?_, hpairs, hlt⟩, ?_⟩
      · simp [PerSlot.toList, fitsByte_byteInt]
      · simp [encodeConfig, PerSlot.toList, intByte_byteInt, hlength, pairBytes]
  · exact .inr rfl

/-! ### The opcode table (R56) -/

/-- What an opcode byte can be: one of the four rows, `KEY` with each of its operands, or reserved. -/
theorem opcode_class (op : Byte) :
    op = 0x00#8 ∨ op = 0x01#8 ∨ op = 0x02#8 ∨ isReservedOpcode op = true ∨ ∃ c, op = 0x20#8 + idxByte c := by
  revert op
  decide

theorem eq_of_configRow_hits {op : Byte} (h : configRow.hits op = true) : op = 0x02#8 := by
  revert op
  decide

theorem decode_pass (bs : List Byte) : decode (0x00#8 :: bs) = .ok (.pass, bs) := rfl

theorem decode_rdpos (bs : List Byte) : decode (0x01#8 :: bs) = .ok (.rdpos, bs) := rfl

theorem decode_config (bs : List Byte) : decode (0x02#8 :: bs) = decodeConfig bs := rfl

theorem decode_key (c : Idx) (bs : List Byte) : decode ((0x20#8 + idxByte c) :: bs) = .ok (.key c, bs) := by
  have hrows : ∀ c : Idx, passRow.hits (0x20#8 + idxByte c) = false ∧ rdposRow.hits (0x20#8 + idxByte c) = false ∧
      configRow.hits (0x20#8 + idxByte c) = false ∧ keyRow.hits (0x20#8 + idxByte c) = true ∧
      keyOperand (0x20#8 + idxByte c) = some c := by decide
  obtain ⟨hpass, hrdpos, hconfig, hkey, hoperand⟩ := hrows c
  simp [decode, hpass, hrdpos, hconfig, hkey, hoperand]

theorem decode_reserved {op : Byte} (h : isReservedOpcode op = true) (bs : List Byte) :
    decode (op :: bs) = .ok (.reserved op, bs) := by
  have hrows : ∀ op : Byte, isReservedOpcode op = true → passRow.hits op = false ∧ rdposRow.hits op = false ∧
      configRow.hits op = false ∧ (keyRow.hits op = false ∨ keyOperand op = none) := by decide
  obtain ⟨hpass, hrdpos, hconfig, hkey | hoperand⟩ := hrows op h
  · simp [decode, hpass, hrdpos, hconfig, hkey]
  · simp [decode, hpass, hrdpos, hconfig, hoperand]

/-- Settles O12: by the decoder's equation for each row. -/
theorem decodeInvertsEncodeFormatH : Obligations.DecodeInvertsEncodeFormatH := by
  intro i hi
  cases i with
  | config k => exact ⟨_, rfl, decodeConfig_encodeConfig hi⟩
  | key c => exact ⟨_, rfl, decode_key c⟩
  | pass => exact ⟨_, rfl, decode_pass⟩
  | rdpos => exact ⟨_, rfl, decode_rdpos⟩
  | reserved op => exact ⟨_, rfl, decode_reserved hi⟩
  | _ => cases hi

/-- What the decoder can read: a whole `CONFIG` command, or one of the commands spelled as their opcode byte alone. -/
theorem decode_ok_cases {bs rest : List Byte} {i : Instr} (h : decode bs = .ok (i, rest)) :
    (∃ k, i = .config k ∧ k.fitsFormatH = true ∧ bs = encodeConfig k ++ rest) ∨
      ∃ op, bs = op :: rest ∧ configRow.hits op = false ∧ i.hasFormatH = true ∧ encode i = .bytes [op] ∧
        ∀ k, i ≠ .config k := by
  cases bs with
  | nil => cases h
  | cons op bs =>
    obtain rfl | rfl | rfl | hreserved | ⟨c, rfl⟩ := opcode_class op
    · cases h
      exact .inr ⟨_, rfl, by decide, rfl, rfl, by simp⟩
    · cases h
      exact .inr ⟨_, rfl, by decide, rfl, rfl, by simp⟩
    · obtain ⟨k, rest', hok, hfits, hbytes⟩ | herror := decodeConfig_cases bs
      · cases h.symm.trans hok
        exact .inl ⟨k, rfl, hfits, hbytes⟩
      · cases h.symm.trans herror
    · cases h.symm.trans (decode_reserved hreserved bs)
      exact .inr ⟨_, rfl, Laws.Spelling.reserved_not_config op hreserved, hreserved, rfl, by simp⟩
    · cases h.symm.trans (decode_key c bs)
      exact .inr ⟨_, rfl, Laws.Spelling.key_not_config c, rfl, rfl, by simp⟩

/-- Settles O13: by what the decoder can read. -/
theorem encodeInvertsDecodeFormatH : Obligations.EncodeInvertsDecodeFormatH := by
  intro bs rest i h
  obtain ⟨k, rfl, hfits, hbytes⟩ | ⟨op, hbytes, -, hformat, hencode, -⟩ := decode_ok_cases h
  · exact ⟨hfits, _, rfl, hbytes⟩
  · exact ⟨hformat, _, hencode, hbytes⟩

/-! ### The length of a command (R64) -/

/-- The bytes of a command the decoder read are as many as they announce. -/
theorem length_eq_of_decode_ok {bs rest : List Byte} {i : Instr} (h : decode bs = .ok (i, rest)) :
    bs.length = commandLength bs + rest.length := by
  obtain ⟨k, -, hfits, rfl⟩ | ⟨op, rfl, hconfig, -⟩ := decode_ok_cases h
  · rw [List.length_append, length_encodeConfig, commandLength_encodeConfig_append hfits]
  · simp [commandLength, hconfig, Nat.add_comm]

/-- A payload shorter than its pair count announces is cut short (R59). -/
theorem decodeConfig_truncated {bs : List Byte} (h : bs.length < 10 + 2 * (bs.getD 9 0).toNat) :
    decodeConfig bs = .error .truncatedConfig := by
  obtain ⟨k, rest, hok, -⟩ | herror := decodeConfig_cases bs
  · have hlength := length_eq_of_decode_ok ((decode_config bs).trans hok)
    have hannounced : commandLength (0x02#8 :: bs) = 11 + 2 * (bs.getD 9 0).toNat := rfl
    rw [hannounced, List.length_cons] at hlength
    omega
  · exact herror

/-- Settles O15: by what the decoder can read; only `CONFIG` announces more than its opcode byte. -/
theorem commandLengthIsAnnounced : Obligations.CommandLengthIsAnnounced := by
  refine ⟨fun bs rest i h => ⟨length_eq_of_decode_ok h, ?announced⟩, fun bs hne hshort => ?short⟩
  case announced =>
    obtain ⟨k, rfl, hfits, rfl⟩ | ⟨op, rfl, hconfig, -, -, hother⟩ := decode_ok_cases h
    · exact commandLength_encodeConfig_append hfits rest
    · cases i with
      | config k => exact absurd rfl (hother k)
      | _ => simp [commandLength, hconfig]
  case short =>
    obtain ⟨op, bs, rfl⟩ := List.exists_cons_of_ne_nil hne
    rw [commandLength, List.length_cons] at hshort
    split at hshort
    · rename_i hop
      obtain rfl := eq_of_configRow_hits hop
      exact decodeConfig_truncated (by omega)
    · omega

/-- Settles O16: the rows and the reserved ranges byte by byte, and the equations of the decoder. -/
theorem opcodeRowsDoNotOverlap : Obligations.OpcodeRowsDoNotOverlap := by
  intro op
  refine ⟨?rows, ?ranges, fun bs => ⟨fun h => decode_reserved h bs, fun h => ?reserved⟩⟩
  case rows =>
    revert op
    decide
  case ranges => simp [isReservedOpcode, BitVec.le_def]
  case reserved =>
    obtain ⟨hformat, -⟩ := encodeInvertsDecodeFormatH _ _ _ h
    exact hformat

/-! ### The command a step takes -/

/-- Settles O17: the decoder's refusals reach the step, and the three commands ask for a configured instance (O38). -/
theorem reservedWordsAreRefused : Obligations.ReservedWordsAreRefused := by
  refine ⟨fun s op => exec_reserved op s, fun s op bs q hop hin => ?reserved, fun s bs q hshort hin => ?truncated,
    fun s c hp hc => ?unconfigured⟩
  case reserved => rw [step_bytes hin (decode_reserved hop bs), exec_reserved]
  case truncated => exact step_truncated hin ((decode_config bs).trans (decodeConfig_truncated hshort))
  case unconfigured =>
    obtain ⟨hkey, -, -, hpass, -, -, -, hrdpos⟩ := unconfiguredCommandsAreRefused s c 'A' [] hp hc
    exact ⟨hkey, hpass, hrdpos⟩

/-- Settles O18: each word is an instance of its row's equation; the seventeen bytes of `CONFIG` are computed. -/
theorem sampleWordsDecode : Obligations.SampleWordsDecode :=
  ⟨decode_pass [], decode_rdpos [], decode_key 7 _, decode_key 25 [], decode_reserved (by decide) [], by decide,
    decodeChar_of_upperIndex true (by decide), decodeChar_of_lowerIndex true (by decide),
    decodeChar_of_lowerIndex (c := 7) false (by decide), decodeChar_of_letterOf_eq_none (by decide)⟩

/-- Settles O19: the step's equation for each form of the first request. -/
theorem stepRunsTheDecodedCommand : Obligations.StepRunsTheDecodedCommand :=
  ⟨fun _ _ _ _ _ => step_bytes, fun _ _ _ _ => step_text, fun _ _ _ => step_command, fun _ => step_idle⟩

/-- Settles O20: the fetch refuses it, and its row has no spelling. -/
theorem internalOperationsAreNotIssued : Obligations.InternalOperationsAreNotIssued := by
  refine fun s i q hin hi => ⟨step_internal hin hi, ?_⟩
  revert hi
  cases i <;> simp [Instr.hostIssuable, encode]

end Sys2Proof.Proofs
end

section
/-! SUPPORT. Proofs of the statements of 42_construction.md: what validation reports (R86, R123), what a successful
`CONFIG` installs (R85, R87, R90), and that `CONFIG` forgets the past (R91, R125). -/

namespace Sys2Proof

@[simp] theorem PerSlot.get_map {α β : Type} (f : α → β) (p : PerSlot α) (r : Slot) :
    (p.map f).get r = f (p.get r) := by
  cases r <;> rfl

/-- A property of the three elements is one of the element in each slot. -/
theorem PerSlot.all_toList_iff {α : Type} {p : PerSlot α} {f : α → Bool} :
    p.toList.all f = true ↔ ∀ r : Slot, f (p.get r) = true := by
  refine ⟨fun h r => List.all_eq_true.mp h _ (Proofs.get_mem_toList p r), fun h => ?_⟩
  simpa [PerSlot.toList] using ⟨h .L, h .M, h .R⟩

end Sys2Proof

namespace Sys2Proof.Proofs

open Sys2Proof Sys2Proof.Machine

/-! ### What each check of R86 means -/

theorem inIdx_iff {v : Int} : inIdx v = true ↔ 0 ≤ v ∧ v ≤ 25 := by
  simp [inIdx]

theorem rangeOk_iff {k : Configuration} :
    rangeOk k = true ↔ ∀ r : Slot, inIdx (k.pos0.get r) = true ∧ inIdx (k.ring.get r) = true := by
  rw [rangeOk, List.all_append, Bool.and_eq_true, PerSlot.all_toList_iff, PerSlot.all_toList_iff, forall_and]

theorem rangeOk_eq_false_iff {k : Configuration} :
    rangeOk k = false ↔
      ∃ r : Slot, ¬ (0 ≤ k.pos0.get r ∧ k.pos0.get r ≤ 25) ∨ ¬ (0 ≤ k.ring.get r ∧ k.ring.get r ≤ 25) := by
  rw [← Bool.not_eq_true, rangeOk_iff]
  simp only [inIdx_iff, not_forall, not_and_or]

/-- An element repeated among the letters is a letter that occurs at least twice (V2). -/
theorem disjointOk_eq_false_iff {k : Configuration} :
    disjointOk k = false ↔ ∃ a : Int, 0 ≤ a ∧ a ≤ 25 ∧ 2 ≤ (pairElements k.pairs).count a := by
  rw [← Bool.not_eq_true, disjointOk, noRepeat_iff_nodup, List.nodup_iff_count_le_one, not_forall]
  refine exists_congr fun a => ?_
  rw [← and_assoc, ← inIdx_iff]
  by_cases ha : inIdx a = true
  · rw [List.count_filter ha]
    simp only [ha, true_and, not_le]
    exact Iff.rfl
  · have hcount : ((pairElements k.pairs).filter inIdx).count a = 0 :=
      List.count_eq_zero.mpr fun hmem => ha (List.of_mem_filter hmem)
    simp [hcount, ha]

theorem rotorsOk_iff {n : Nat} {k : Configuration} :
    rotorsOk n k = true ↔ ∀ r : Slot, 0 ≤ k.rot.get r ∧ k.rot.get r < (n : Int) := by
  rw [rotorsOk, PerSlot.all_toList_iff]
  simp

theorem rotorsOk_eq_false_iff {n : Nat} {k : Configuration} :
    rotorsOk n k = false ↔ ∃ r : Slot, ¬ (0 ≤ k.rot.get r ∧ k.rot.get r < (n : Int)) := by
  rw [← Bool.not_eq_true, rotorsOk_iff, not_forall]

theorem formatOk_eq_false_iff {k : Configuration} :
    formatOk k = false ↔ ∃ p ∈ k.pairs, ¬ (0 ≤ p.1 ∧ p.1 ≤ 25) ∨ ¬ (0 ≤ p.2 ∧ p.2 ≤ 25) := by
  have hpairs : formatOk k = true ↔ ∀ p ∈ k.pairs, inIdx p.1 = true ∧ inIdx p.2 = true := by
    simp [formatOk, pairElements, List.all_flatMap]
  rw [← Bool.not_eq_true, hpairs]
  simp only [inIdx_iff, not_forall, not_and_or, exists_prop]

/-- The checks come in the order of their codes, so the first that fails is the cause with the lowest (R123). -/
theorem validate_iff (n : Nat) (k : Configuration) :
    (validate n k = .range ↔ rangeOk k = false) ∧
      (validate n k = .plug ↔ ¬ rangeOk k = false ∧ disjointOk k = false) ∧
      (validate n k = .rotor ↔ ¬ rangeOk k = false ∧ ¬ disjointOk k = false ∧ rotorsOk n k = false) ∧
      (validate n k = .format ↔
        ¬ rangeOk k = false ∧ ¬ disjointOk k = false ∧ ¬ rotorsOk n k = false ∧ formatOk k = false) ∧
      (validate n k = .noError ↔
        ¬ rangeOk k = false ∧ ¬ disjointOk k = false ∧ ¬ rotorsOk n k = false ∧ ¬ formatOk k = false) := by
  unfold validate
  cases rangeOk k <;> cases disjointOk k <;> cases rotorsOk n k <;> cases formatOk k <;> simp

theorem length_wiredIndices (ps : List (Int × Int)) : (wiredIndices ps).length = 2 * ps.length := by
  simp [wiredIndices, pairElements, List.length_flatMap, Nat.mul_comm]

/-- Each pair takes two of the 26 letters (R86). -/
theorem length_pairs_le {n : Nat} {k : Configuration} (h : validate n k = .noError) : k.pairs.length ≤ 13 := by
  have hle := (wiredIndices_nodup_of_valid h).length_le_card
  rw [length_wiredIndices, Fintype.card_fin] at hle
  omega

/-- Settles O33: the order of the checks, with what each of them means. -/
theorem validationReportsTheLowestCause : Obligations.ValidationReportsTheLowestCause := by
  intro n k badRange reused unknown noLetter
  have hrange : rangeOk k = false ↔ badRange := rangeOk_eq_false_iff
  have hplug : disjointOk k = false ↔ reused := disjointOk_eq_false_iff
  have hrotor : rotorsOk n k = false ↔ unknown := rotorsOk_eq_false_iff
  have hformat : formatOk k = false ↔ noLetter := formatOk_eq_false_iff
  simpa only [hrange, hplug, hrotor, hformat, and_assoc] using And.intro (validate_iff n k) length_pairs_le

/-! ### What a successful `CONFIG` installs -/

/-- Validated operands are written as they are: neither `Int.toNat` nor the reduction mod 26 changes them (R85). -/
theorem configuredBank_get {n : Nat} {k : Configuration} (h : validate n k = .noError) (catalog : List RotorType)
    (r : Slot) :
    ((configuredBank catalog k).sel.get r : Int) = k.rot.get r ∧
      (((configuredBank catalog k).pos.get r).val : Int) = k.pos0.get r ∧
      (((configuredBank catalog k).ring.get r).val : Int) = k.ring.get r := by
  obtain ⟨hrange, -, hrotors, -⟩ := validate_eq_noError.mp h
  obtain ⟨hpos, hring⟩ := rangeOk_iff.mp hrange r
  obtain ⟨hsel, -⟩ := rot_get_known hrotors r
  simp only [configuredBank, PerSlot.get_map]
  exact ⟨Int.toNat_of_nonneg hsel, mod26_inIdx hpos, mod26_inIdx hring⟩

/-- Settles O31: the state of a successful construction, field by field; the catalog entries are the invariant's. -/
theorem constructionInstallsItsOperands : Obligations.ConstructionInstallsItsOperands := by
  intro s k hp hvalid
  obtain ⟨-, hconfigured⟩ := inv_install hp hvalid
  obtain ⟨-, -, hslots⟩ := hconfigured rfl
  refine ⟨_, exec_config_of_valid hp hvalid, fun r => ?_, rfl, rfl, rfl, rfl, rfl, rfl, rfl, ⟨rfl, rfl, rfl⟩⟩
  obtain ⟨hsel, hpos, hring⟩ := configuredBank_get hvalid s.catalog r
  exact ⟨hsel, hslots r, hpos, hring⟩

/-- The identifiers are checked on their own, so known ones may replace them (R86, R90). -/
theorem validate_sameRotor {n e : Nat} {k : Configuration} (h : validate n k = .noError) (he : e < n) :
    validate n { k with rot := ⟨e, e, e⟩ } = .noError := by
  obtain ⟨hrange, hdisjoint, -, hformat⟩ := validate_eq_noError.mp h
  refine validate_eq_noError.mpr ⟨hrange, hdisjoint, rotorsOk_iff.mpr fun r => ?_, hformat⟩
  cases r <;> exact ⟨Int.natCast_nonneg e, Int.ofNat_lt.mpr he⟩

/-- Settles O35: the changed configuration is legal too, and is installed as it is. -/
theorem sameRotorInEverySlotIsLegal : Obligations.SameRotorInEverySlotIsLegal := by
  intro s k e hp hvalid he
  have hvalid' := validate_sameRotor hvalid he
  refine ⟨_, exec_config_of_valid hp hvalid', rfl, fun r => ?_⟩
  obtain ⟨-, hpos, hring⟩ := configuredBank_get hvalid' s.catalog r
  refine ⟨?_, hpos, hring⟩
  cases r <;> rfl

/-! ### `CONFIG` reads the constants and its operands alone (R91) -/

theorem construct_of_valid {s : State} {k : Configuration} (h : validate s.catalog.length k = .noError) :
    s.construct k = s.install k := by
  obtain ⟨-, hinstall⟩ | ⟨hinvalid, -⟩ := s.construct_cases k
  · exact hinstall
  · exact absurd h hinvalid

theorem construct_of_invalid {s : State} {k : Configuration} (h : validate s.catalog.length k ≠ .noError) :
    s.construct k = s.raiseConfigError (validate s.catalog.length k) := by
  obtain ⟨hvalid, -⟩ | ⟨-, hraise⟩ := s.construct_cases k
  · exact absurd hvalid h
  · exact hraise

theorem construct_configured_iff {s : State} {k : Configuration} :
    (s.construct k).configured = true ↔ validate s.catalog.length k = .noError := by
  by_cases h : validate s.catalog.length k = .noError
  · simp [construct_of_valid h, h]
  · simp [construct_of_invalid h, h]

theorem sameMachine_construct {s u : State} (h : s.SameHardware u) (k : Configuration) :
    (s.construct k).SameMachine (u.construct k) := by
  have ⟨hcatalog, _, _⟩ := h
  by_cases hvalid : validate s.catalog.length k = .noError
  · rw [construct_of_valid hvalid, construct_of_valid (hcatalog ▸ hvalid)]
    exact ⟨h, rfl, rfl, fun _ => congrArg (configuredBank · k) hcatalog⟩
  · rw [construct_of_invalid hvalid, construct_of_invalid (hcatalog ▸ hvalid)]
    have hcause : validate s.catalog.length k = validate u.catalog.length k := by rw [hcatalog]
    exact ⟨h, rfl, hcause, nofun⟩

theorem parametersOk_congr {s u : State} (h : s.SameHardware u) : s.parametersOk = u.parametersOk := by
  obtain ⟨hcatalog, hreflector, -⟩ := h
  rw [State.parametersOk, State.parametersOk, hcatalog, hreflector]

/-- Settles O36: the two constructions are alike, and `CONFIG` answers with their status. -/
theorem reconfigurationForgetsThePast : Obligations.ReconfigurationForgetsThePast := by
  intro s u k hp hsame
  have halike := sameMachine_construct hsame k
  have ⟨_, _, herr, _⟩ := halike
  refine ⟨_, _, exec_config hp k, exec_config ((parametersOk_congr hsame).symm.trans hp) k,
    sameMachine_respond_withResult _ _ _ _ halike, congrArg Result.status herr, ?_⟩
  rw [State.withResult_configured, State.respond_configured, construct_configured_iff]

/-- Settles O37: the failure left the constants, and nothing else enters a construction (O36). -/
theorem retryFailsAlikeAndCorrectionRecovers : Obligations.RetryFailsAlikeAndCorrectionRecovers := by
  intro s t k hp hinvalid hexec
  have hsame : s.SameHardware t := sameHardware_of_exec_next hexec
  refine ⟨?retry, fun k' hvalid => ?correction⟩
  case retry =>
    obtain ⟨t', u, ht, hu, ⟨-, hconfigured, herr, -⟩, hresult, hiff⟩ := reconfigurationForgetsThePast s t k hp hsame
    cases hexec.symm.trans ht
    refine ⟨u, hu, herr.symm, hresult.symm, ?_⟩
    rw [← hconfigured, ← Bool.not_eq_true, hiff]
    exact hinvalid
  case correction =>
    obtain ⟨a, ha, ⟨-, hinvA⟩, hcA, -, hbankA⟩ := exists_exec_config_inv hp hsame hvalid
    obtain ⟨b, hb, ⟨-, hinvB⟩, hcB, -, hbankB⟩ := exists_exec_config_inv hp ⟨rfl, rfl, rfl⟩ hvalid
    obtain ⟨herrA, -⟩ := hinvA hcA
    obtain ⟨herrB, -⟩ := hinvB hcB
    exact ⟨a, b, ha, hb, hbankA.trans hbankB.symm, hcA, hcB, herrA, herrB⟩

end Sys2Proof.Proofs
end

section
/-! SUPPORT. Proofs of the statements of 43_stepping.md and 30_encoding.md that speak of single rows: what stepping
reads (R99), the uppercase letter (R52) and `PASS` (R111). -/

namespace Sys2Proof.Proofs

open Sys2Proof Sys2Proof.Machine

/-! ### Stepping -/

theorem stepAll_pos_congr {s t : State} (hpos : s.pos = t.pos) (hnotch : s.notch = t.notch) :
    s.stepAll.pos = t.stepAll.pos := by
  rw [stepAll_pos, stepAll_pos, hpos, hnotch]

/-- Equal positions and notches stay equal, step by step (R99 (a), (b)). -/
theorem stepAll_iterate_pos_congr {s t : State} (hpos : s.pos = t.pos) (hnotch : s.notch = t.notch) (n : Nat) :
    ((fun u : State => u.stepAll)^[n] s).pos = ((fun u : State => u.stepAll)^[n] t).pos := by
  induction n generalizing s t with
  | zero => exact hpos
  | succ n ih => exact ih (stepAll_pos_congr hpos hnotch) (by simpa using hnotch)

/-- A middle rotor at its notch steps, and one place past the notch is not the notch (R99 (c)). -/
theorem stepAll_leaves_middle_notch {s : State} (h : s.atNotch .M = true) : s.stepAll.atNotch .M = false := by
  refine atNotch_eq_false_of_pos_eq_add (d := 1) ?_ (by decide)
  have hM : s.pos.M = s.notch.M := atNotch_iff.mp h
  rw [stepAll_pos_of_middle h, s.stepAll_notch, hM]
  rfl

/-- Settles O43: by induction on the keypresses, and by the step out of the notch. -/
theorem steppingReadsPositionsAndNotchesOnly : Obligations.SteppingReadsPositionsAndNotchesOnly :=
  ⟨fun _ _ n hpos hnotch => stepAll_iterate_pos_congr hpos hnotch n, fun _ => stepAll_leaves_middle_notch⟩

/-! ### The uppercase letter and `PASS` -/

/-- Settles O49: the frame of `STEPALL`, put into the meaning of the row. -/
theorem uppercaseLetterIsKeyed : Obligations.UppercaseLetterIsKeyed := by
  intro s c hs stepped
  have hframe : s.stepAll = stepped := s.stepAll_frame
  refine ⟨letter (stepped.path c), letter_toNat _, ?_⟩
  rw [exec_keyUpper_usable hs, State.keyed, hframe]
  rfl

/-- Settles O51: the meanings of the two rows on a usable state. -/
theorem passStepsNothing : Obligations.PassStepsNothing :=
  fun _ hs => ⟨State.onConfigured_usable hs _, exec_passChar_usable hs⟩

end Sys2Proof.Proofs
end

section
/-! SUPPORT. Proofs of the statements of 60_exceptions.md about all commands at once: on a configured instance each one
completes (R120, R126), and none reads more than constants, status and registers in use (R134). -/

namespace Sys2Proof.Proofs

open Sys2Proof Sys2Proof.Machine

/-! ### Totality -/

theorem exec_completes {s : State} (hs : s.Usable) {i : Instr} (hi : ∀ op, i ≠ .reserved op) :
    ∃ t, exec i s = .next t := by
  have ⟨hp, _, _⟩ := hs
  cases hr : readsRegisters i with
  | true => exact ⟨_, (exec_of_readsRegisters hr s).trans (State.onConfigured_usable hs _)⟩
  | false =>
    cases i with
    | config k => exact ⟨_, exec_config hp k⟩
    | encrypt k m => exact ⟨_, (exec_pseudo hp k m).1⟩
    | decrypt k m => exact ⟨_, (exec_pseudo hp k m).2⟩
    | reserved op => exact absurd rfl (hi op)
    | _ => cases hr

/-- Settles O39: the invariant makes the state usable, and no delivery writes the status. -/
theorem everyOperationIsTotalWhenConfigured : Obligations.EveryOperationIsTotalWhenConfigured := by
  intro i s hs hc hi
  obtain ⟨t, hexec⟩ := exec_completes (usable_of_inv hs hc) hi
  refine ⟨t, hexec, fun hconfig => ?_⟩
  obtain ⟨-, hconfigured⟩ := hs
  obtain ⟨herr, -⟩ := hconfigured hc
  rw [eq_deliver_of_exec_next hexec hconfig]
  exact ⟨hc, herr⟩

/-! ### What a delivery reads -/

namespace SameCipher

variable {s t : State}

theorem forward_eq (h : SameCipher s t) (r : Slot) (v : Idx) : s.forward r v = t.forward r v := by
  simp only [State.forward, h.wiring, h.pos, h.ring]

theorem backward_eq (h : SameCipher s t) (r : Slot) (v : Idx) : s.backward r v = t.backward r v := by
  simp only [State.backward, h.wiring, h.pos, h.ring]

theorem atNotch_eq (h : SameCipher s t) (r : Slot) : s.atNotch r = t.atNotch r := by
  simp only [State.atNotch, h.pos, h.notch]

theorem keyed_eq (h : SameCipher s t) (c : Idx) : s.keyed c = t.keyed c :=
  h.stepAll.path_eq c

/-- A command that reads the registers delivers the same from states that encipher alike. -/
theorem delivery_eq (h : SameCipher s t) {i : Instr} (hi : readsRegisters i = true) : delivery s i = delivery t i := by
  cases i with
  | rotorForward r v => simp only [delivery, h.pos, h.forward_eq]
  | rotorBackward r v => simp only [delivery, h.pos, h.backward_eq]
  | rotorStep r => simp only [delivery, h.pos]
  | rotorAtNotch r => simp only [delivery, h.pos, h.atNotch_eq]
  | plugSwap v => simp only [delivery, h.pos, State.plugSwap, h.plug]
  | reflApply v => simp only [delivery, h.pos, State.reflect, h.reflector]
  | stepAll => simp only [delivery, h.stepAll.pos]
  | path v => simp only [delivery, h.pos, h.path_eq]
  | key c => simp only [delivery, h.stepAll.pos, h.keyed_eq]
  | keyUpper c => simp only [delivery, h.stepAll.pos, h.keyed_eq]
  | keyLower c => simp only [delivery, h.foldLowercase, h.pos, h.stepAll.pos, h.keyed_eq]
  | pass => simp only [delivery, h.pos]
  | passChar x => simp only [delivery, h.pos]
  | char x => simp only [delivery, (h.charNext x).pos, h.charResult_eq]
  | process m =>
    obtain ⟨htext, hstate⟩ := h.processLoop m
    simp only [delivery, htext, hstate.pos]
  | rdpos => simp only [delivery, h.pos]
  | config _ | encrypt _ _ | decrypt _ _ | reserved _ => cases hi

end SameCipher

/-! ### Commands on two alike instances -/

/-- One command on two states: the same refusal, or next states again alike with the same delivered (R134). -/
def AnsweredAlike (i : Instr) (s t : State) : Prop :=
  (∃ r, exec i s = .refused r ∧ exec i t = .refused r) ∨
    ∃ s' t' o b, exec i s = .next s' ∧ exec i t = .next t' ∧ s'.SameMachine t' ∧ s'.result = t'.result ∧
      s'.output = s.output ++ o ∧ t'.output = t.output ++ o ∧
      s'.response = s.response ++ b ∧ t'.response = t.response ++ b

section

variable {s t : State} (h : s.SameMachine t)

include h

theorem sameCipher_of_sameMachine (hc : s.configured = true) : SameCipher s t := by
  obtain ⟨hsame, -, -, hbank⟩ := h
  exact sameCipher_of_bank_eq ⟨rfl, rfl, rfl⟩ hsame (hbank hc)

theorem obstacle_congr : s.obstacle = t.obstacle := by
  have ⟨hsame, hconfigured, _, _⟩ := h
  have hp := parametersOk_congr hsame
  cases hc : s.configured with
  | false => simp [State.obstacle, hp, ← hconfigured, hc]
  | true =>
    have hwirings : s.wiringsOk = t.wiringsOk := by
      rw [State.wiringsOk, State.wiringsOk, (sameCipher_of_sameMachine h hc).wiring]
    simp [State.obstacle, hp, ← hconfigured, hc, hwirings]

/-- Equal deliveries keep two states alike. -/
theorem sameMachine_deliver (d : Delivery) : (deliver s d).SameMachine (deliver t d) := by
  obtain ⟨hsame, hconfigured, herr, hbank⟩ := h
  exact ⟨hsame, hconfigured, herr, fun hc => congrArg (fun b : Bank => { b with pos := d.pos }) (hbank hc)⟩

theorem answeredAlike_of_readsRegisters {i : Instr} (hi : readsRegisters i = true) : AnsweredAlike i s t := by
  unfold AnsweredAlike
  rw [exec_of_readsRegisters hi, exec_of_readsRegisters hi]
  cases ho : s.obstacle with
  | some r =>
    have ho' : t.obstacle = some r := (obstacle_congr h).symm.trans ho
    exact .inl ⟨r, State.onConfigured_refused ho, State.onConfigured_refused ho'⟩
  | none =>
    have hnext (u : State) : s.onConfigured u = .next u ∧ t.onConfigured u = .next u := by
      simp [State.onConfigured, ← obstacle_congr h, ho]
    obtain ⟨⟨-, hc, -⟩, -⟩ := State.onConfigured_next (hnext s).1
    rw [(sameCipher_of_sameMachine h hc).delivery_eq hi]
    exact .inr ⟨_, _, _, _, (hnext _).1, (hnext _).2, sameMachine_deliver h _, rfl, rfl, rfl, rfl, rfl⟩

theorem answeredAlike_config (k : Configuration) : AnsweredAlike (.config k) s t := by
  obtain ⟨hsame, -⟩ := h
  have hp := parametersOk_congr hsame
  cases hps : s.parametersOk with
  | false => exact .inl ⟨_, exec_of_illFormed hps (by simp), exec_of_illFormed (hp.symm.trans hps) (by simp)⟩
  | true =>
    have halike := sameMachine_construct hsame k
    have ⟨_, _, herr, _⟩ := halike
    obtain ⟨-, -, houtput, hresponse⟩ := construct_frame s k
    obtain ⟨-, -, houtput', hresponse'⟩ := construct_frame t k
    refine .inr ⟨_, _, [], [(s.construct k).err.code], exec_config hps k, exec_config (hp.symm.trans hps) k,
      sameMachine_respond_withResult _ _ _ _ halike, congrArg Result.status herr, ?_, ?_, ?_, ?_⟩
    · simp [houtput]
    · simp [houtput']
    · simp [hresponse]
    · simp [hresponse', herr]

/-- A new instance has only the constants from this one (R63). -/
theorem onNewInstance_congr (k : Configuration) (m : List Char) : s.onNewInstance k m = t.onNewInstance k m := by
  obtain ⟨⟨hcatalog, hreflector, hfold⟩, -⟩ := h
  have hnew : s.newInstance = t.newInstance := by
    rw [State.newInstance, State.newInstance, hcatalog, hreflector, hfold]
  rw [State.onNewInstance, State.onNewInstance, hnew]

theorem answeredAlike_pseudo (k : Configuration) (m : List Char) :
    AnsweredAlike (.encrypt k m) s t ∧ AnsweredAlike (.decrypt k m) s t := by
  have ⟨hsame, _⟩ := h
  have hp := parametersOk_congr hsame
  cases hps : s.parametersOk with
  | false =>
    have hpt := hp.symm.trans hps
    exact ⟨.inl ⟨_, exec_of_illFormed hps (by simp), exec_of_illFormed hpt (by simp)⟩,
      .inl ⟨_, exec_of_illFormed hps (by simp), exec_of_illFormed hpt (by simp)⟩⟩
  | true =>
    obtain ⟨hencrypt, hdecrypt⟩ := exec_pseudo hps k m
    obtain ⟨hencrypt', hdecrypt'⟩ := exec_pseudo (hp.symm.trans hps) k m
    have hresult := onNewInstance_congr h k m
    have hnil (u : State) : u.output = u.output ++ [] ∧ u.response = u.response ++ [] := by simp
    obtain ⟨hos, hbs⟩ := hnil s
    obtain ⟨hot, hbt⟩ := hnil t
    exact ⟨.inr ⟨_, _, _, _, hencrypt, hencrypt', h, hresult, hos, hot, hbs, hbt⟩,
      .inr ⟨_, _, _, _, hdecrypt, hdecrypt', h, hresult, hos, hot, hbs, hbt⟩⟩

end

/-- Settles O40: by what each command reads: registers in use, the constants and its operands, or nothing. -/
theorem nothingReadsUnconfiguredRegisters : Obligations.NothingReadsUnconfiguredRegisters := by
  intro i s t h
  cases hi : readsRegisters i with
  | true => exact answeredAlike_of_readsRegisters h hi
  | false =>
    cases i with
    | config k => exact answeredAlike_config h k
    | encrypt k m => exact (answeredAlike_pseudo h k m).1
    | decrypt k m => exact (answeredAlike_pseudo h k m).2
    | reserved op => exact .inl ⟨_, exec_reserved op s, exec_reserved op t⟩
    | _ => cases hi

end Sys2Proof.Proofs
end

section
/-! SUPPORT. Proofs of the statements that compare a text taken character by character with `PROCESS` (R112), and the
pseudo-operations with `CONFIG` and `PROCESS` (R63). -/

namespace Sys2Proof.Proofs

open Sys2Proof Sys2Proof.Machine

/-! ### Characters one step at a time -/

/-- A step that completes begins the run (Host/Core.lean). -/
theorem run_succ {machine : Host.Core} {s t : machine.State} (h : machine.step s = .next t) (n : Nat) :
    machine.run (n + 1) s = machine.run n t := by
  rw [Host.Core.run, h]

/-- The operation a character decodes to is `CHAR` of it (R110). -/
theorem exec_decodeChar (s : State) (x : Char) : exec (decodeChar s.foldLowercase x) s = exec (.char x) s := by
  obtain ⟨c, hu⟩ | ⟨hf, c, hl⟩ | ho := char_class s.foldLowercase x
  · rw [decodeChar_of_upperIndex _ hu, exec_char_of_letterOf (letterOf_of_upperIndex _ hu)]
  · have hletter : letterOf s.foldLowercase x = some c := hf ▸ letterOf_of_lowerIndex hl
    rw [decodeChar_of_lowerIndex _ hl, if_pos hf, exec_keyLower_of_fold hf, exec_char_of_letterOf hletter]
  · rw [decodeChar_of_letterOf_eq_none ho, exec_char_of_letterOf_eq_none ho]

/-- What waits in the input does not enter the loop. -/
theorem processLoop_withInput (s : State) (q : List Request) (m : List Char) :
    (s.withInput q).processLoop m = ((s.processLoop m).1, (s.processLoop m).2.withInput q) := by
  have hsame : SameCipher (s.withInput q) s := ⟨rfl, rfl, rfl, rfl, rfl, rfl, rfl⟩
  obtain ⟨htext, hstate⟩ := hsame.processLoop m
  refine Prod.ext htext ?_
  rw [State.processLoop_frame, hstate.pos, s.processLoop_frame]
  rfl

/-- The state after the characters `m`, with the rest `rest` of the text still waiting. -/
def afterText (s : State) (m rest : List Char) (q : List Request) : State :=
  ((s.processLoop m).2.emitText (s.processLoop m).1).withInput (.text rest :: q)

theorem afterText_usable {s : State} (h : s.Usable) (m rest : List Char) (q : List Request) :
    (afterText s m rest q).Usable :=
  usable_processLoop h m

/-- The characters after `a` go on where `a` left the machine. -/
theorem afterText_append (s : State) (a b rest : List Char) (q : List Request) (r : Result) :
    afterText ((afterText s a b q).withResult r) b rest q = (afterText s (a ++ b) rest q).withResult r := by
  have hloop : ((afterText s a b q).withResult r).processLoop b =
      (((s.processLoop a).2.processLoop b).1,
        ((((s.processLoop a).2.processLoop b).2.withInput (.text b :: q)).emitText
          (s.processLoop a).1).withResult r) := by
    have hdelivered := processLoop_delivered ((s.processLoop a).2.withInput (.text b :: q)) (s.processLoop a).1 r b
    rw [processLoop_withInput] at hdelivered
    exact hdelivered
  rw [afterText, hloop, afterText, processLoop_append, emitText_withResult, emitText_emitText]
  rfl

/-- One step takes one character. -/
theorem step_char {s : State} (hs : s.Usable) {x : Char} {m : List Char} {q : List Request}
    (hin : s.input = .text (x :: m) :: q) : ∃ r, step s = .next ((afterText s [x] m q).withResult r) := by
  have htaken : (s.withInput (.text m :: q)).Usable := hs
  have hsame : SameCipher (s.withInput (.text m :: q)) s := ⟨rfl, rfl, rfl, rfl, rfl, rfl, rfl⟩
  have hnext : (s.withInput (.text m :: q)).charNext x = (s.charNext x).withInput (.text m :: q) :=
    congrArg Prod.snd (processLoop_withInput s (.text m :: q) [x])
  have hstep : step s = exec (.char x) (s.withInput (.text m :: q)) :=
    (step_text hin).trans (exec_decodeChar (s.withInput (.text m :: q)) x)
  refine ⟨.character (s.charResult x), ?_⟩
  rw [hstep, exec_char_usable htaken, hsame.charResult_eq, hnext]
  rfl

/-- As many steps as characters take the text. -/
theorem run_text {s : State} (hs : s.Usable) {m : List Char} {q : List Request} (hin : s.input = .text m :: q) :
    ∃ r, Host.Core.run core m.length s = .next ((afterText s m [] q).withResult r) := by
  induction m generalizing s with
  | nil =>
    have hself : (afterText s [] [] q).withResult s.result = s := by
      rw [afterText, State.processLoop, emitText_nil, ← hin]
      rfl
    exact ⟨s.result, congrArg Host.Outcome.next hself.symm⟩
  | cons x m ih =>
    obtain ⟨r, hstep⟩ := step_char hs hin
    have husable : ((afterText s [x] m q).withResult r).Usable := afterText_usable hs [x] m q
    have hinput : ((afterText s [x] m q).withResult r).input = .text m :: q := rfl
    obtain ⟨r', hrun⟩ := ih husable hinput
    rw [afterText_append, withResult_withResult] at hrun
    exact ⟨r', (run_succ (machine := core) hstep m.length).trans hrun⟩

/-- Settles O57: both end in the state of the loop, with the text taken or not. -/
theorem characterStepsRefineProcess : Obligations.CharacterStepsRefineProcess := by
  intro s m q hs hin
  obtain ⟨r, hrun⟩ := run_text hs hin
  exact ⟨_, _, hrun, exec_process_usable hs m, rfl⟩

/-! ### The pseudo-operations -/

section

variable {s : State} {k : Configuration}

theorem onNewInstance_of_configured (h : (s.newInstance.construct k).configured = true) (m : List Char) :
    s.onNewInstance k m = .text ((s.newInstance.construct k).processLoop m).1 := by
  simp [State.onNewInstance, h]

theorem onNewInstance_of_failed (h : (s.newInstance.construct k).configured = false) (m : List Char) :
    s.onNewInstance k m = .status (s.newInstance.construct k).err := by
  simp [State.onNewInstance, h]

end

/-- Settles O60: the instance the model takes and any other of the same hardware are configured alike (O36), and so give
the same text or the same cause. -/
theorem encryptRunsOnANewInstance : Obligations.EncryptRunsOnANewInstance := by
  intro s k m hp
  obtain ⟨hencrypt, hdecrypt⟩ := exec_pseudo hp k m
  refine ⟨_, hencrypt, hdecrypt, fun fresh t hsame hconfig => ?_⟩
  obtain ⟨hpFresh, ht⟩ := exec_config_next hconfig
  have hnew : s.newInstance.SameHardware fresh := hsame
  have halike : (s.newInstance.construct k).SameMachine t := by
    rw [ht]
    exact sameMachine_construct hnew k
  have hinv : t.Inv := by
    rw [ht]
    exact inv_construct hpFresh k
  have ⟨_, hconfigured, herr, _⟩ := halike
  refine ⟨fun hc => ?succeeded, fun hc => ?failed⟩
  case succeeded =>
    have hcNew := hconfigured.trans hc
    obtain ⟨htext, -⟩ := (sameCipher_of_sameMachine halike hcNew).processLoop m
    refine ⟨_, exec_process_usable (usable_of_inv hinv hc) m, ?_⟩
    rw [onNewInstance_of_configured hcNew, htext]
    rfl
  case failed => rw [onNewInstance_of_failed (hconfigured.trans hc), herr]

end Sys2Proof.Proofs
end
